-- ==== Sys2Proof/Word.lean ====
section
/-! DEFINITION. The unsigned values of the block, by width (00_scope.md R6): a byte is u8, a word u32. -/

namespace Sys2Proof

/-- u4: the operation port and a status code. -/
abbrev Nibble := BitVec 4

/-- u8. -/
abbrev Byte := BitVec 8

/-- u16, and s16 read through `BitVec.toInt`. -/
abbrev Half := BitVec 16

/-- u32: the `cmd` and `param` ports. -/
abbrev Word := BitVec 32

end Sys2Proof
end

