-- ==== Sys2Proof/Machine/Bits.lean ====
section
/-! DEFINITION. The bit-field and byte-order helpers of 00_scope.md R6 and 20_memory.md R47, R49. -/

namespace Sys2Proof

/-- `byte_k(w) = w[8k+7:8k]` (R6, R49); zero for k > 3. -/
def byteK (k : Nat) (w : Word) : Byte := w.extractLsb' (8 * k) 8

/-- The 32-bit value whose `byte_0` .. `byte_3` are the four bytes given (R47, R49). -/
def word32 (b0 b1 b2 b3 : Byte) : Word := b3 ++ b2 ++ b1 ++ b0

/-- `le16(lo, hi) = lo + 256*hi` (R6). -/
def le16 (lo hi : Byte) : Half := hi ++ lo

/-- `x >>a k`: floor division by 2^k, the sign kept (R6). -/
def sarHalf (x : Half) (k : Nat) : Half := x.sshiftRight k

/-- The `n` bytes of a number written as the opcode table writes a frame: the leftmost, most significant byte is
offset 0 (opcode_table.json, the notes of the frame rows). -/
def bytesMsbFirst : Nat → Nat → List Byte
  | 0, _ => []
  | n + 1, w => BitVec.ofNat 8 (w / 2 ^ (8 * n)) :: bytesMsbFirst n w

end Sys2Proof
end

