-- ==== Sys2Proof/Syntax.lean ====
section
/-! DEFINITION. The instructions: one constructor for each row of spec/opcode_table.json, in the table's order; the
formats of 30_encoding.md R65 in which the host presents them; and the reasons a presented item is no instruction. -/

namespace Sys2Proof

/-- One constructor per row of the opcode table. -/
inductive Instr where
  -- format OP: the block's operations (R60)
  | nop
  | csumClr
  | csumAdd (b : Byte)
  | enc (cmd param : Word)
  | decd
  | decr (cmd : Word)
  | stset (code : Nibble)
  | recover (bus : BitVec 1)
  | recoverAll
  | reserved9
  | reserved10
  | reserved11
  | reserved12
  | reserved13
  | reserved14
  | reserved15
  -- format CW: the command words given to ENC (R110 to R117), and format CF: the frames ENC builds (R66)
  | getFirmwareVersion
  | getFirmwareVersionFrame (c : Byte)
  | softReset
  | softResetFrame (c : Byte)
  | hardReset
  | hardResetFrame (c : Byte)
  | saveSettings
  | saveSettingsFrame (c : Byte)
  | setFrameRate (rate : Half)
  | setFrameRateFrame (p0 p1 c : Byte)
  | setBaudRate (baud : Word)
  | setBaudRateFrame (p0 p1 p2 p3 c : Byte)
  | setI2cAddress (addr : Byte)
  | setI2cAddressFrame (p0 c : Byte)
  | i2cFormatCm
  | i2cFormatCmFrame (c : Byte)
  -- formats RF-ECHO, RF-VER, RF-PF: a reply received for the command `cmd` (R70 to R73)
  | replyEcho (cmd : Word) (body : List Byte) (c : Byte)
  | replyVersion (cmd : Word) (x0 x1 x2 patch minor major : Byte) (extra : List Byte) (c : Byte)
  | replyPassfail (cmd : Word) (x0 x1 x2 flag : Byte) (extra : List Byte) (c : Byte)
  -- format DF9: the data frame (R74)
  | dataFrame (h0 h1 dl dh fl fh tl th c : Byte)
  -- format ST: the status codes given to STSET (R200, R201)
  | stReady
  | stSerialTimeout
  | stHeaderNotFound
  | stChecksumMismatch
  | stDeviceTimeout
  | stPass
  | stFail
  | stI2cReadError
  | stI2cWriteError
  | stI2cLengthError
  | stWeakSignal
  | stStrongSignal
  | stAmbientFlood
  | stReserved13
  | stReserved14
  | stReserved15
deriving DecidableEq, Repr

/-- The formats of R65 in which an item reaches the block. `op` is the operation port with its two operand ports. -/
inductive Format where
  | op | cw | cf | rfEcho | rfVer | rfPf | df9 | st
deriving DecidableEq, Repr

/-- An item presented to the block: its format and its bytes, offset 0 first. The byte layout of the ports is the
model's own (DESIGN CHOICE, log entry 5): `op` is the operation code, then `cmd` and `param`, each little-endian; `cw`
is `cmd` and `param`; the reply formats are the `cmd` operand of `DECR`, then the reply. -/
structure Request where
  fmt   : Format
  bytes : List Byte
deriving DecidableEq, Repr

/-- Why presented bytes are no instruction. None of them is an item the hardware's ports can carry. -/
inductive DecodeError where
  /-- The number of bytes is not one the format has. -/
  | badLength (fmt : Format) (n : Nat)
  /-- The byte for the 4-bit operation port has a bit set above bit 3 (R60). -/
  | opPortTooWide (b : Byte)
  /-- The byte for the 4-bit status code has a bit set above bit 3 (R200). -/
  | statusPortTooWide (b : Byte)
  /-- The bytes have none of the eight command-frame patterns of R110 to R117. -/
  | notACommandFrame
deriving DecidableEq, Repr

end Sys2Proof
end

