-- ==== Sys2Proof/Decode.lean ====
section
/-! DEFINITION. Decoding a presented item, total on any bytes, and the encoder, both from the encodings of
30_encoding.md (R60, R61, R63, R66, R70 to R74, R200). -/

namespace Sys2Proof

/-- The operation of a 4-bit code with the operand ports `cmd` and `param` (R60). Bits an operation does not name are
ignored (R61); codes 9 to 15 are the reserved rows (R62). -/
def decodeOp (op : Nibble) (cmd param : Word) : Instr :=
  match op.toNat with
  | 0 => .nop
  | 1 => .csumClr
  | 2 => .csumAdd (param.extractLsb' 0 8)
  | 3 => .enc cmd param
  | 4 => .decd
  | 5 => .decr cmd
  | 6 => .stset (param.extractLsb' 0 4)
  | 7 => .recover (param.extractLsb' 0 1)
  | 8 => .recoverAll
  | 9 => .reserved9
  | 10 => .reserved10
  | 11 => .reserved11
  | 12 => .reserved12
  | 13 => .reserved13
  | 14 => .reserved14
  | _ => .reserved15

/-- A command word with the `param` port (R63, R68). A word that is none of the eight rows is given to `ENC` as it
is, which looks it up and rejects it if the table lacks it (R78, R102). -/
def decodeCw (cmd param : Word) : Instr :=
  if cmd = 0x00010407 then .getFirmwareVersion
  else if cmd = 0x00020405 then .softReset
  else if cmd = 0x00100405 then .hardReset
  else if cmd = 0x00110405 then .saveSettings
  else if cmd = 0x00030606 then .setFrameRate (param.extractLsb' 0 16)
  else if cmd = 0x00060808 then .setBaudRate param
  else if cmd = 0x100B0505 then .setI2cAddress (param.extractLsb' 0 8)
  else if cmd = 0x01000500 then .i2cFormatCm
  else .enc cmd param

/-- A command frame by its header, length, opcode and, for `I2C_FORMAT_CM`, its inline byte (R66, R110 to R117). -/
def decodeCf (bs : List Byte) : Except DecodeError Instr :=
  match bs with
  | [h, len, opc, c] =>
    if h = 0x5A ∧ len = 4 ∧ opc = 0x01 then .ok (.getFirmwareVersionFrame c)
    else if h = 0x5A ∧ len = 4 ∧ opc = 0x02 then .ok (.softResetFrame c)
    else if h = 0x5A ∧ len = 4 ∧ opc = 0x10 then .ok (.hardResetFrame c)
    else if h = 0x5A ∧ len = 4 ∧ opc = 0x11 then .ok (.saveSettingsFrame c)
    else .error .notACommandFrame
  | [h, len, opc, p0, c] =>
    if h = 0x5A ∧ len = 5 ∧ opc = 0x0B then .ok (.setI2cAddressFrame p0 c)
    else if h = 0x5A ∧ len = 5 ∧ opc = 0x00 ∧ p0 = 0x01 then .ok (.i2cFormatCmFrame c)
    else .error .notACommandFrame
  | [h, len, opc, p0, p1, c] =>
    if h = 0x5A ∧ len = 6 ∧ opc = 0x03 then .ok (.setFrameRateFrame p0 p1 c) else .error .notACommandFrame
  | [h, len, opc, p0, p1, p2, p3, c] =>
    if h = 0x5A ∧ len = 8 ∧ opc = 0x06 then .ok (.setBaudRateFrame p0 p1 p2 p3 c) else .error .notACommandFrame
  | _ => .error (.badLength .cf bs.length)

/-- The last byte of a list and the bytes before it; the checksum of a reply stands last (R70). -/
def splitLast : List Byte → Option (List Byte × Byte)
  | [] => none
  | b :: bs =>
    match splitLast bs with
    | none => some ([], b)
    | some (body, c) => some (b :: body, c)

/-- A status code (R200, R201). -/
def decodeSt (code : Nibble) : Instr :=
  match code.toNat with
  | 0 => .stReady
  | 1 => .stSerialTimeout
  | 2 => .stHeaderNotFound
  | 3 => .stChecksumMismatch
  | 4 => .stDeviceTimeout
  | 5 => .stPass
  | 6 => .stFail
  | 7 => .stI2cReadError
  | 8 => .stI2cWriteError
  | 9 => .stI2cLengthError
  | 10 => .stWeakSignal
  | 11 => .stStrongSignal
  | 12 => .stAmbientFlood
  | 13 => .stReserved13
  | 14 => .stReserved14
  | _ => .stReserved15

/-- An echo reply: `rpl - 1` bytes and the checksum, 2 to 9 in all (R71, R67 (e)). -/
def decodeEcho (cmd : Word) (bs : List Byte) : Except DecodeError Instr :=
  match splitLast bs with
  | some (body, c) =>
    if 1 ≤ body.length ∧ body.length ≤ 8 then .ok (.replyEcho cmd body c) else .error (.badLength .rfEcho bs.length)
  | none => .error (.badLength .rfEcho bs.length)

/-- A version reply: offsets 3, 4, 5 are the version bytes, 7 to 9 bytes in all (R72). -/
def decodeVer (cmd : Word) (bs : List Byte) : Except DecodeError Instr :=
  match bs with
  | x0 :: x1 :: x2 :: patch :: minor :: major :: rest =>
    match splitLast rest with
    | some (extra, c) =>
      if extra.length ≤ 2 then .ok (.replyVersion cmd x0 x1 x2 patch minor major extra c)
      else .error (.badLength .rfVer bs.length)
    | none => .error (.badLength .rfVer bs.length)
  | _ => .error (.badLength .rfVer bs.length)

/-- A pass/fail reply: offset 3 is the flag, 5 to 9 bytes in all (R73). -/
def decodePf (cmd : Word) (bs : List Byte) : Except DecodeError Instr :=
  match bs with
  | x0 :: x1 :: x2 :: flag :: rest =>
    match splitLast rest with
    | some (extra, c) =>
      if extra.length ≤ 4 then .ok (.replyPassfail cmd x0 x1 x2 flag extra c)
      else .error (.badLength .rfPf bs.length)
    | none => .error (.badLength .rfPf bs.length)
  | _ => .error (.badLength .rfPf bs.length)

/-- The four bytes of a 32-bit operand and the bytes after it. -/
def takeWord : List Byte → Option (Word × List Byte)
  | b0 :: b1 :: b2 :: b3 :: rest => some (word32 b0 b1 b2 b3, rest)
  | _ => none

/-- The reply formats: the `cmd` operand of `DECR`, then the reply's bytes. -/
def decodeReply (fmt : Format) (f : Word → List Byte → Except DecodeError Instr) (bs : List Byte) :
    Except DecodeError Instr :=
  match takeWord bs with
  | some (cmd, reply) => f cmd reply
  | none => .error (.badLength fmt bs.length)

/-- The decoder: total on every format and every list of bytes, and rejecting by name. -/
def decode (r : Request) : Except DecodeError Instr :=
  match r.fmt with
  | .op =>
    match r.bytes with
    | [o, c0, c1, c2, c3, p0, p1, p2, p3] =>
      if o.toNat < 16 then .ok (decodeOp (o.extractLsb' 0 4) (word32 c0 c1 c2 c3) (word32 p0 p1 p2 p3))
      else .error (.opPortTooWide o)
    | bs => .error (.badLength .op bs.length)
  | .cw =>
    match r.bytes with
    | [c0, c1, c2, c3, p0, p1, p2, p3] => .ok (decodeCw (word32 c0 c1 c2 c3) (word32 p0 p1 p2 p3))
    | bs => .error (.badLength .cw bs.length)
  | .cf => decodeCf r.bytes
  | .rfEcho => decodeReply .rfEcho decodeEcho r.bytes
  | .rfVer => decodeReply .rfVer decodeVer r.bytes
  | .rfPf => decodeReply .rfPf decodePf r.bytes
  | .df9 =>
    match r.bytes with
    | [h0, h1, dl, dh, fl, fh, tl, th, c] => .ok (.dataFrame h0 h1 dl dh fl fh tl th c)
    | bs => .error (.badLength .df9 bs.length)
  | .st =>
    match r.bytes with
    | [b] => if b.toNat < 16 then .ok (decodeSt (b.extractLsb' 0 4)) else .error (.statusPortTooWide b)
    | bs => .error (.badLength .st bs.length)

/-- The four bytes of a 32-bit port value, least significant first. -/
def wordBytes (w : Word) : List Byte := [byteK 0 w, byteK 1 w, byteK 2 w, byteK 3 w]

/-- The presentation of an operation: its code and its operand ports (R60). -/
def opRequest (code : Byte) (cmd param : Word) : Request := ⟨.op, code :: (wordBytes cmd ++ wordBytes param)⟩

/-- The presentation of a command word with the `param` port (R63). -/
def cwRequest (cmd param : Word) : Request := ⟨.cw, wordBytes cmd ++ wordBytes param⟩

/-- The encoder, from the same tables; bits an operation ignores are 0. -/
def encode : Instr → Request
  | .nop => opRequest 0 0 0
  | .csumClr => opRequest 1 0 0
  | .csumAdd b => opRequest 2 0 (b.setWidth 32)
  | .enc cmd param => opRequest 3 cmd param
  | .decd => opRequest 4 0 0
  | .decr cmd => opRequest 5 cmd 0
  | .stset code => opRequest 6 0 (code.setWidth 32)
  | .recover bus => opRequest 7 0 (bus.setWidth 32)
  | .recoverAll => opRequest 8 0 0
  | .reserved9 => opRequest 9 0 0
  | .reserved10 => opRequest 10 0 0
  | .reserved11 => opRequest 11 0 0
  | .reserved12 => opRequest 12 0 0
  | .reserved13 => opRequest 13 0 0
  | .reserved14 => opRequest 14 0 0
  | .reserved15 => opRequest 15 0 0
  | .getFirmwareVersion => cwRequest 0x00010407 0
  | .getFirmwareVersionFrame c => ⟨.cf, [0x5A, 4, 0x01, c]⟩
  | .softReset => cwRequest 0x00020405 0
  | .softResetFrame c => ⟨.cf, [0x5A, 4, 0x02, c]⟩
  | .hardReset => cwRequest 0x00100405 0
  | .hardResetFrame c => ⟨.cf, [0x5A, 4, 0x10, c]⟩
  | .saveSettings => cwRequest 0x00110405 0
  | .saveSettingsFrame c => ⟨.cf, [0x5A, 4, 0x11, c]⟩
  | .setFrameRate rate => cwRequest 0x00030606 (rate.setWidth 32)
  | .setFrameRateFrame p0 p1 c => ⟨.cf, [0x5A, 6, 0x03, p0, p1, c]⟩
  | .setBaudRate baud => cwRequest 0x00060808 baud
  | .setBaudRateFrame p0 p1 p2 p3 c => ⟨.cf, [0x5A, 8, 0x06, p0, p1, p2, p3, c]⟩
  | .setI2cAddress addr => cwRequest 0x100B0505 (addr.setWidth 32)
  | .setI2cAddressFrame p0 c => ⟨.cf, [0x5A, 5, 0x0B, p0, c]⟩
  | .i2cFormatCm => cwRequest 0x01000500 0
  | .i2cFormatCmFrame c => ⟨.cf, [0x5A, 5, 0x00, 0x01, c]⟩
  | .replyEcho cmd body c => ⟨.rfEcho, wordBytes cmd ++ (body ++ [c])⟩
  | .replyVersion cmd x0 x1 x2 patch minor major extra c =>
    ⟨.rfVer, wordBytes cmd ++ (x0 :: x1 :: x2 :: patch :: minor :: major :: (extra ++ [c]))⟩
  | .replyPassfail cmd x0 x1 x2 flag extra c => ⟨.rfPf, wordBytes cmd ++ (x0 :: x1 :: x2 :: flag :: (extra ++ [c]))⟩
  | .dataFrame h0 h1 dl dh fl fh tl th c => ⟨.df9, [h0, h1, dl, dh, fl, fh, tl, th, c]⟩
  | .stReady => ⟨.st, [0]⟩
  | .stSerialTimeout => ⟨.st, [1]⟩
  | .stHeaderNotFound => ⟨.st, [2]⟩
  | .stChecksumMismatch => ⟨.st, [3]⟩
  | .stDeviceTimeout => ⟨.st, [4]⟩
  | .stPass => ⟨.st, [5]⟩
  | .stFail => ⟨.st, [6]⟩
  | .stI2cReadError => ⟨.st, [7]⟩
  | .stI2cWriteError => ⟨.st, [8]⟩
  | .stI2cLengthError => ⟨.st, [9]⟩
  | .stWeakSignal => ⟨.st, [10]⟩
  | .stStrongSignal => ⟨.st, [11]⟩
  | .stAmbientFlood => ⟨.st, [12]⟩
  | .stReserved13 => ⟨.st, [13]⟩
  | .stReserved14 => ⟨.st, [14]⟩
  | .stReserved15 => ⟨.st, [15]⟩

/-- The item whose bits the opcode table numbers as `w`: the format is the one the table gives a row of that many bits
and that pattern, the leftmost byte of a frame being the most significant (log entry 6 says how the two 4-bit formats
and the frames of equal length are told apart). A reply is presented for a command whose default reply length it has.
DESIGN CHOICE (log entry 6): a 32-bit number with the fixed bits of one of the four 4-byte command-frame rows is that
frame, and every other one is a command word, with an inline byte of 0x5A too (R63); a width the table gives no row is
refused. -/
def tableRequest (nbits w : Nat) : Request :=
  match nbits with
  | 4 | 8 => ⟨.op, BitVec.ofNat 8 w :: List.replicate 8 0⟩
  | 32 =>
    if w / 2 ^ 8 = 0x5A0401 ∨ w / 2 ^ 8 = 0x5A0402 ∨ w / 2 ^ 8 = 0x5A0410 ∨ w / 2 ^ 8 = 0x5A0411 then
      ⟨.cf, bytesMsbFirst 4 w⟩
    else cwRequest (BitVec.ofNat 32 w) 0
  | 40 =>
    if w / 2 ^ 16 = 0x5A050B ∨ w / 2 ^ 8 = 0x5A050001 then ⟨.cf, bytesMsbFirst 5 w⟩
    else ⟨.rfPf, wordBytes 0x00020405 ++ bytesMsbFirst 5 w⟩
  | 48 =>
    if w / 2 ^ 24 = 0x5A0603 then ⟨.cf, bytesMsbFirst 6 w⟩ else ⟨.rfEcho, wordBytes 0x00030606 ++ bytesMsbFirst 6 w⟩
  | 56 => ⟨.rfVer, wordBytes 0x00010407 ++ bytesMsbFirst 7 w⟩
  | 64 =>
    if w / 2 ^ 40 = 0x5A0806 then ⟨.cf, bytesMsbFirst 8 w⟩ else ⟨.rfEcho, wordBytes 0x00060808 ++ bytesMsbFirst 8 w⟩
  | 72 => ⟨.df9, bytesMsbFirst 9 w⟩
  | _ => ⟨.cf, []⟩

/-- The instruction the decoder reads from an item whose bits are `w`. -/
def decodeTableWord (nbits w : Nat) : Option Instr :=
  match decode (tableRequest nbits w) with
  | .ok i => some i
  | .error _ => none

end Sys2Proof
end

