-- ==== Sys2Proof/Config.lean ====
section
/-! DEFINITION. The implementation parameters of 00_scope.md R5 (fixed for one machine, carried in `State.cfg`), the
default command table of 30_encoding.md R68, and the FREE VALUES: constants with no body, about which nothing can be
proved. -/

namespace Sys2Proof

/-- Where a command's parameter bytes come from (R67 `psrc`). -/
inductive ParamSrc where
  | none | inline | ext
deriving DecidableEq, Repr

/-- What the reply to a command is (R67 `kind`). -/
inductive ReplyKind where
  | none | echo | version | passFail
deriving DecidableEq, Repr

/-- A row of `CMD_TABLE` (R67). `rpl`, `len`, `opc` and `inl` are bytes of `word` (R63). -/
structure CmdRow where
  name : String
  word : Word
  pw   : Nat
  psrc : ParamSrc
  kind : ReplyKind
deriving DecidableEq, Repr

/-- `N_BUSES`: 1 or 2 (R5). -/
inductive BusCount where
  | one | two
deriving DecidableEq, Repr

/-- A pair of pins, by the platform's identifiers (R5 `PINS[b]`). -/
structure PinPair where
  data  : Nat
  clock : Nat
deriving DecidableEq, Repr

/-- The parameters of R5 a model takes as arguments; durations are lower bounds in microseconds (R167). The last three
have no default there: `none` leaves them to the free values below (log entry 18). -/
structure Config where
  cmdTable    : List CmdRow
  hasRecovery : Bool
  nBuses      : BusCount
  tPulse      : Nat
  tStopA      : Nat
  tStopB      : Nat
  tStopC      : Nat
  pins0       : Option PinPair
  pins1       : Option PinPair
  tSettle     : Option Nat
deriving DecidableEq, Repr

/-- The default `CMD_TABLE`, R68, row by row. -/
def Config.defaultTable : List CmdRow :=
  [ ⟨"GET_FIRMWARE_VERSION", 0x00010407, 0, .none,   .version⟩,
    ⟨"SOFT_RESET",           0x00020405, 0, .none,   .passFail⟩,
    ⟨"HARD_RESET",           0x00100405, 0, .none,   .passFail⟩,
    ⟨"SAVE_SETTINGS",        0x00110405, 0, .none,   .passFail⟩,
    ⟨"SET_FRAME_RATE",       0x00030606, 2, .ext,    .echo⟩,
    ⟨"SET_BAUD_RATE",        0x00060808, 4, .ext,    .echo⟩,
    ⟨"SET_I2C_ADDRESS",      0x100B0505, 1, .ext,    .echo⟩,
    ⟨"I2C_FORMAT_CM",        0x01000500, 1, .inline, .none⟩ ]

/-- Every parameter at the default of R5; `PINS` and `T_SETTLE` have none. -/
def Config.standard : Config :=
  { cmdTable := Config.defaultTable, hasRecovery := true, nBuses := .one,
    tPulse := 5, tStopA := 5, tStopB := 2, tStopC := 2,
    pins0 := none, pins1 := none, tSettle := none }

/-- `DEFAULT_ADDR`, the device address a host uses when none is given (R5, R191); the block does not hold it. -/
def Config.defaultAddr : Byte := 0x10

/-- FREE VALUE: the data pin of a bus on the host platform's board, by bus number (R5 `PINS[b]`, U8). -/
opaque Config.boardDataPin : Nat → Nat

/-- FREE VALUE: the clock pin of a bus on the host platform's board, by bus number (R5 `PINS[b]`, U8). -/
opaque Config.boardClockPin : Nat → Nat

/-- FREE VALUE: the host's settling interval, which R5 leaves open (`T_SETTLE`, U6). -/
opaque Config.freeSettle : Nat

/-- FREE VALUE: what a receive-buffer cell holds that nothing has written since reset number `epoch` (R42, R230, U11):
arguments `epoch`, `offset`. -/
opaque Config.freeRxCell : Nat → Nat → Byte

/-- FREE VALUE: what a transmit-buffer cell reads as before the first `ENC` after reset number `epoch` (R230, U11). -/
opaque Config.freeTxCell : Nat → Nat → Byte

/-- FREE VALUE: what the `draw`-th host read of a 16-bit register holding `UNDEF` returns (R7, U1). -/
opaque Config.freeHalf : Nat → Half

/-- FREE VALUE: what the `draw`-th host read of a version byte holding `UNDEF` returns (R7, U1). -/
opaque Config.freeByte : Nat → Byte

/-- FREE VALUE: whether a decode sees the new value of a buffer write that coincides with it (R243, U5); the argument is
`State.draws`. -/
opaque Config.freeSeesNew : Nat → Bool

end Sys2Proof
end

