-- ==== Sys2Proof/Machine/State.lean ====
section
/-! DEFINITION. The state of the block (10_state.md R10), as plain data; what the outside world presents to it; the
reasons a step can stop; and the state after reset (70_reset_and_hazards.md R230). -/

namespace Sys2Proof.Machine

/-- The thirteen values of the Status field (R200); codes 13 to 15 are held by no state (R201). -/
inductive Status where
  | ready | serialTimeout | headerNotFound | checksumMismatch | deviceTimeout | pass | fail
  | i2cReadError | i2cWriteError | i2cLengthError | weakSignal | strongSignal | ambientFlood
deriving DecidableEq, Repr

/-- The bus the recovery FSM works on: the primary, or the second independent bus (R162). -/
inductive Bus where
  | bus0 | bus1
deriving DecidableEq, Repr

/-- The data line SDA or the clock line SCL (R9). -/
inductive Line where
  | sda | scl
deriving DecidableEq, Repr

/-- Format `PE` (R161). -/
inductive PinEvent where
  | modeOut (b : Bus) (l : Line)
  | modeIn (b : Bus) (l : Line)
  | write (b : Bus) (l : Line) (level : Bool)
  | reinit (b : Bus)
deriving DecidableEq, Repr

/-- The "wait after" column of R163, by the name of its parameter. -/
inductive Wait where
  | none | pulse | stopA | stopB | stopC
deriving DecidableEq, Repr

/-- One entry of the pin-event trace (R161): the event, and the least wait before the next one (R163). -/
structure TraceEntry where
  event : PinEvent
  wait  : Wait
deriving DecidableEq, Repr

/-- The four latches of one bus (R22): output enable and output level of each line. -/
structure PinLatches where
  sdaOe  : Bool
  sdaOut : Bool
  sclOe  : Bool
  sclOut : Bool
deriving DecidableEq, Repr

/-- Both lines passive, both levels high: reset and idle (R22, R230). -/
def PinLatches.idle : PinLatches := { sdaOe := false, sdaOut := true, sclOe := false, sclOut := true }

/-- `VER[0]`, `VER[1]`, `VER[2]` (R14). -/
structure Version where
  major : Byte
  minor : Byte
  patch : Byte
deriving DecidableEq, Repr

/-- A byte buffer: (offset, byte) cells, offsets strictly rising. An offset that is not listed holds no value that the
model names (R230); it reads as a free value. -/
abbrev Memory := List Host.Cell

/-- The canonical form: offsets strictly rising. No cell equals what an unlisted offset reads as, since an unlisted
offset has no value. -/
def Memory.wf : Memory → Bool
  | [] => true
  | [_] => true
  | c :: d :: m => decide (c.1 < d.1) && Memory.wf (d :: m)

/-- A use of one of the host's write ports: a byte of `RXBUF`, or `RXLEN` (R42). -/
inductive HostWrite where
  | cell (addr : Nibble) (data : Byte)
  | length (n : Nibble)
deriving DecidableEq, Repr

/-- What the outside world does at one step: it presents an item (`op_valid = 1`, R30, R31), uses a write port (R42),
does both at once (R243), asserts `rst` (R230), or leaves the block alone. -/
inductive HostEvent where
  | present (r : Request)
  | write (w : HostWrite)
  | presentDuring (w : HostWrite) (r : Request)
  | reset
  | idle
deriving DecidableEq, Repr

/-- The state. The first group is R10, register by register; the second is the model's own. -/
structure State where
  /-- `ACC`. -/
  acc    : Byte
  /-- `TXBUF[0..7]`; unspecified (nothing listed) until the first `ENC`. -/
  txbuf  : Memory
  /-- `TXLEN`, u4. -/
  txlen  : Nibble
  /-- `RPLEN`, u8. -/
  rplen  : Byte
  /-- `RXBUF[0..8]`; a cell the host has not written since reset is not listed. -/
  rxbuf  : Memory
  /-- `RXLEN`, u4. -/
  rxlen  : Nibble
  /-- `DIST`, s16 or UNDEF (`none`, R7). -/
  dist   : Option Half
  /-- `FLUX`, s16 or UNDEF. -/
  flux   : Option Half
  /-- `TEMP`, s16 or UNDEF. -/
  temp   : Option Half
  /-- `MVALID`. -/
  mvalid : Bool
  /-- `VER[0..2]`, three bytes or UNDEF. -/
  ver    : Option Version
  /-- `VVALID`. -/
  vvalid : Bool
  /-- `STATUS`. -/
  status : Status
  /-- `OK`. -/
  ok     : Bool
  /-- `REJ`. -/
  rej    : Bool
  /-- `BUSY`. -/
  busy   : Bool
  /-- `RSTEP`, u5: 0 idle, 1 to 29 the step to be taken next (R21). -/
  rstep  : BitVec 5
  /-- `RBUS`. -/
  rbus   : Bus
  /-- `RALL`. -/
  rall   : Bool
  /-- The pin latches of bus 0 (R22). -/
  pins0  : PinLatches
  /-- The pin latches of bus 1; at their reset values when `N_BUSES` is 1 (R22). -/
  pins1  : PinLatches
  /-- Model: the `done` output (R30), true when the last step completed an accepted operation. -/
  done   : Bool
  /-- Model: the pin events emitted so far, oldest first (R161); `reinit_req` pulses are its `reinit` entries. -/
  trace  : List TraceEntry
  /-- Model: what the outside world does next, in order; an empty list leaves the block alone. -/
  inbox  : List HostEvent
  /-- Model: the number of resets so far, which the free values of unwritten cells depend on. -/
  epoch  : Nat
  /-- Model: the number of coinciding writes so far, which the free choice of what a decode sees depends on (R243). -/
  draws  : Nat
  /-- Model: the parameters the block was built with (R5); no step changes them. -/
  cfg    : Config
deriving DecidableEq, Repr

/-- The machine right after reset (R230), with every parameter at its default (R5). -/
def State.reset : State :=
  { acc := 0, txbuf := [], txlen := 0, rplen := 0, rxbuf := [], rxlen := 0,
    dist := none, flux := none, temp := none, mvalid := false, ver := none, vvalid := false,
    status := .ready, ok := false, rej := false, busy := false, rstep := 0, rbus := .bus0, rall := false,
    pins0 := PinLatches.idle, pins1 := PinLatches.idle, done := false, trace := [], inbox := [], epoch := 0, draws := 0,
    cfg := Config.standard }

/-- Why the machine stops. It has no constructor: the block has no trap and no access of it can fault (R44, R205), so
no step raises a fault, and none can be claimed. -/
inductive Fault where
deriving DecidableEq, Repr

/-- Why a step has no meaning. -/
inductive Refusal where
  /-- Raised by an arm of `exec` for an instruction that has no meaning yet; safe. No arm raises it. -/
  | notModelled (mnemonic : String)
  /-- Raised by the step for presented bytes that no port of the hardware can carry (log entry 5); safe, since the
  hardware has no such item. -/
  | undecodable (e : DecodeError)
deriving DecidableEq, Repr

/-- The outcome of a step of this machine. -/
abbrev Result := Host.Outcome State Fault Refusal

end Sys2Proof.Machine
end

