-- ==== Sys2Proof/Machine/Ops.lean ====
section
/-! DEFINITION. The named operations over the buffers and the registers: reading and writing a cell, the entry, failure
and rejection of an operation (60_exceptions.md R203, R205, R206; the block's only "exception", from which nothing
returns, R209), and its admission (10_state.md R31). -/

namespace Sys2Proof.Machine

/-- The byte a buffer holds at an offset, if it holds one. -/
def Memory.read : Memory → Nat → Option Byte
  | [], _ => none
  | (k, v) :: m, a => if k = a then some v else Memory.read m a

/-- Writing one byte, the only access width (R44); keeps the canonical form. -/
def Memory.write : Memory → Nat → Byte → Memory
  | [], a, v => [(a, v)]
  | (k, w) :: m, a, v =>
    if a < k then (a, v) :: (k, w) :: m else if a = k then (a, v) :: m else (k, w) :: Memory.write m a v

/-- The buffer that holds the given bytes from offset `off` upwards and nothing else. -/
def Memory.ofBytes : Nat → List Byte → Memory
  | _, [] => []
  | off, b :: bs => (off, b) :: Memory.ofBytes (off + 1) bs

/-- The status codes of R200; 13, 14 and 15 are reserved (R201). -/
def Status.ofCode (code : Nibble) : Option Status :=
  match code.toNat with
  | 0 => some .ready
  | 1 => some .serialTimeout
  | 2 => some .headerNotFound
  | 3 => some .checksumMismatch
  | 4 => some .deviceTimeout
  | 5 => some .pass
  | 6 => some .fail
  | 7 => some .i2cReadError
  | 8 => some .i2cWriteError
  | 9 => some .i2cLengthError
  | 10 => some .weakSignal
  | 11 => some .strongSignal
  | 12 => some .ambientFlood
  | _ => none

/-- The code of a status, as the `status` port shows it (R200). -/
def Status.code : Status → Nibble
  | .ready => 0
  | .serialTimeout => 1
  | .headerNotFound => 2
  | .checksumMismatch => 3
  | .deviceTimeout => 4
  | .pass => 5
  | .fail => 6
  | .i2cReadError => 7
  | .i2cWriteError => 8
  | .i2cLengthError => 9
  | .weakSignal => 10
  | .strongSignal => 11
  | .ambientFlood => 12

/-- `RX[i]`: a cell nothing has written since reset reads as its free value (R42, U11), the same at every read until
the host writes it or resets the block. -/
def rxRead (s : State) (i : Nat) : Byte := (Memory.read s.rxbuf i).getD (Config.freeRxCell s.epoch i)

/-- `RX[0..n-1]`, lowest offset first (R7). -/
def rxRange (s : State) (n : Nat) : List Byte := (List.range n).map (rxRead s)

/-- The host's write port of `RXBUF`: one byte; an address above 8 is ignored (R42). -/
def State.rxWrite (s : State) (addr : Nat) (data : Byte) : State :=
  if addr ≤ 8 then { s with rxbuf := Memory.write s.rxbuf addr data } else s

/-- The host's write port of `RXLEN` (R16). -/
def State.rxLenWrite (s : State) (n : Nibble) : State := { s with rxlen := n }

/-- A use of a write port (R42). -/
def State.hostWrite (s : State) : HostWrite → State
  | .cell addr data => s.rxWrite addr.toNat data
  | .length n => s.rxLenWrite n

/-- The bytes of a list written from offset `off` upwards. -/
def State.rxWriteFrom (s : State) (off : Nat) : List Byte → State
  | [] => s
  | b :: bs => (s.rxWrite off b).rxWriteFrom (off + 1) bs

/-- `RX <- bytes` (R80, R187): the bytes at offsets 0 upwards, then their count in `RXLEN`. -/
def State.loadRx (s : State) (bytes : List Byte) : State :=
  (s.rxWriteFrom 0 bytes).rxLenWrite (BitVec.ofNat 4 bytes.length)

/-- `enter`: `STATUS <- Ready; OK <- 1; REJ <- 0` (R203). -/
def State.enter (s : State) : State := { s with status := .ready, ok := true, rej := false }

/-- `fail S`: `STATUS <- S; OK <- 0`, and the operation ends (R7, R205). -/
def State.fail (s : State) (st : Status) : State := { s with status := st, ok := false }

/-- `reject`: `REJ <- 1; OK <- 0`, and the operation ends (R206). -/
def State.reject (s : State) : State := { s with rej := true, ok := false }

/-- `STATUS <- st; OK <- (1 if Ready else 0); REJ <- 0` (R181). -/
def State.record (s : State) (st : Status) : State :=
  { s with status := st, ok := st == .ready, rej := false }

/-- `ACC <- c`. -/
def State.setAcc (s : State) (c : Byte) : State := { s with acc := c }

/-- A frame in `TXBUF`, with its length, its reply length and its checksum (the last lines of R100). -/
def State.putFrame (s : State) (buf : List Byte) (c : Byte) (len : Nibble) (rpl : Byte) : State :=
  { s with txbuf := Memory.ofBytes 0 buf, acc := c, txlen := len, rplen := rpl }

/-- `TX[0..7] <- 0x00; TXLEN <- 0; RPLEN <- 0` (R102). -/
def State.clearFrame (s : State) : State :=
  { s with txbuf := Memory.ofBytes 0 (List.replicate 8 0), txlen := 0, rplen := 0 }

/-- `DIST`, `FLUX`, `TEMP` written together, `MVALID <- 1` (R12, R13). -/
def State.setFields (s : State) (d f t : Half) : State :=
  { s with dist := some d, flux := some f, temp := some t, mvalid := true }

/-- `DIST`, `FLUX`, `TEMP <- UNDEF; MVALID <- 0` (R138). -/
def State.undefFields (s : State) : State := { s with dist := none, flux := none, temp := none, mvalid := false }

/-- `VER` written, `VVALID <- 1` (R14, R143). -/
def State.setVersion (s : State) (v : Version) : State := { s with ver := some v, vvalid := true }

/-- The pin latches of a bus (R22). -/
def State.pins (s : State) (b : Bus) : PinLatches :=
  match b with
  | .bus0 => s.pins0
  | .bus1 => s.pins1

/-- Writing the pin latches of a bus. -/
def State.setPins (s : State) (b : Bus) (p : PinLatches) : State :=
  match b with
  | .bus0 => { s with pins0 := p }
  | .bus1 => { s with pins1 := p }

/-- One entry at the end of the pin-event trace (R161). -/
def State.emit (s : State) (e : TraceEntry) : State := { s with trace := s.trace ++ [e] }

/-- Admission: an operation is accepted when `BUSY = 0`; otherwise no state changes and it is not queued (R31, R241). -/
def admitted (f : State → State) (s : State) : State := if s.busy then s else f s

/-- The outcome of presenting an operation: always a next state. -/
def present (f : State → State) (s : State) : Result := .next (admitted f s)

/-- `rst`: every register at the value of R230, whatever was running (R232). The parameters stay, the events already
emitted stay in the trace, and cells nothing writes afterwards get new free values. -/
def State.hwReset (s : State) : State :=
  { State.reset with
    cfg := s.cfg, trace := s.trace, inbox := s.inbox, epoch := s.epoch + 1, draws := s.draws }

end Sys2Proof.Machine
end

