-- ==== Sys2Proof/WellFormed.lean ====
section
/-! DEFINITION. What is required of an instruction (the lengths of its byte lists) and of the parameters (R67). -/

namespace Sys2Proof

/-- Every reply fits the nine cells of `RXBUF` (R67 (e), R141), and an echo has at least one byte before its checksum. -/
def Instr.wellFormed : Instr → Bool
  | .replyEcho _ body _ => decide (1 ≤ body.length ∧ body.length ≤ 8)
  | .replyVersion _ _ _ _ _ _ _ extra _ => decide (extra.length ≤ 2)
  | .replyPassfail _ _ _ _ _ extra _ => decide (extra.length ≤ 4)
  | _ => true

/-- Reply length, byte0 of the command word (R63). -/
def CmdRow.rpl (r : CmdRow) : Nat := (byteK 0 r.word).toNat

/-- Command length, byte1 of the command word (R63). -/
def CmdRow.len (r : CmdRow) : Nat := (byteK 1 r.word).toNat

/-- Command opcode, byte2 of the command word (R63). -/
def CmdRow.opc (r : CmdRow) : Byte := byteK 2 r.word

/-- Inline parameter, byte3 of the command word (R63). -/
def CmdRow.inl (r : CmdRow) : Byte := byteK 3 r.word

/-- The least reply length of a kind (R67 (d), (e)). -/
def ReplyKind.minReply : ReplyKind → Nat
  | .none => 0
  | .echo => 2
  | .passFail => 5
  | .version => 7

/-- R67 (b): the descriptor invariant of R64, and a width that exists. -/
def CmdRow.lenOk (r : CmdRow) : Bool := r.pw ∈ [0, 1, 2, 4] && r.len == 4 + r.pw

/-- R67 (c). -/
def CmdRow.psrcOk (r : CmdRow) : Bool :=
  match r.psrc with
  | .none => r.pw == 0
  | .inline => r.pw == 1
  | .ext => r.pw != 0

/-- R67 (d) and (e). -/
def CmdRow.replyOk (r : CmdRow) : Bool :=
  (r.kind == .none) == (r.rpl == 0) && decide (r.rpl ≤ 9) && decide (r.kind.minReply ≤ r.rpl)

/-- R67 (a): no two rows have the same word. -/
def distinctWords : List CmdRow → Bool
  | [] => true
  | r :: rest => rest.all (fun q => q.word != r.word) && distinctWords rest

/-- A table the block may be built with (R67). -/
def Config.wellFormed (c : Config) : Bool :=
  distinctWords c.cmdTable && c.cmdTable.all (fun r => r.lenOk && r.psrcOk && r.replyOk)

end Sys2Proof
end

