-- ==== Sys2Proof/Machine/Operands.lean ====
section
/-! DEFINITION. Every operand form: the table lookup (30_encoding.md R67), the parameter bytes of a command (R69), the
fields of the data frame (R75) and of the reply frames (R72, R73), and the temperature conversion (R134). -/

namespace Sys2Proof.Machine

/-- `lookup(w)`: the row whose word equals `w` in all 32 bits (R67). -/
def lookup (table : List CmdRow) (w : Word) : Option CmdRow := table.find? (fun r => r.word == w)

/-- `for j in 0 .. pw-1 : TX[3+j] <- byte_j(param)` (R69). -/
def putParam (pw : Nat) (param : Word) (buf : List Byte) : List Byte :=
  match pw with
  | 0 => buf
  | n + 1 => (putParam n param buf).set (3 + n) (byteK n param)

/-- The eight transmit cells before the checksum is stored: zero-filled, header, length, opcode and parameter, in the
order of R100. -/
def frameBuffer (row : CmdRow) (cmd param : Word) : List Byte :=
  let buf := (((List.replicate 8 (0 : Byte)).set 0 0x5A).set 1 (byteK 1 cmd)).set 2 (byteK 2 cmd)
  match row.psrc with
  | .ext => putParam row.pw param buf
  | .inline => buf.set 3 (byteK 3 cmd)
  | .none => buf

/-- `d = as_s16(le16(RX[2], RX[3]))` (R75). -/
def rxDistance (s : State) : Half := le16 (rxRead s 2) (rxRead s 3)

/-- `f = as_s16(le16(RX[4], RX[5]))` (R75). -/
def rxFlux (s : State) : Half := le16 (rxRead s 4) (rxRead s 5)

/-- `traw = as_s16(le16(RX[6], RX[7]))` (R75). -/
def rxRawTemp (s : State) : Half := le16 (rxRead s 6) (rxRead s 7)

/-- `(traw >>a 3) - 256` (R134). -/
def convertTemp (traw : Half) : Half := sarHalf traw 3 - 256

/-- The version triple, in reverse byte order (R48, R143). -/
def rxVersion (s : State) : Version := { major := rxRead s 5, minor := rxRead s 4, patch := rxRead s 3 }

/-- The bus a bus number names (R160). -/
def Bus.ofNumber (b : BitVec 1) : Bus := if b = 0 then .bus0 else .bus1

/-- `b < N_BUSES` (R160). -/
def busExists (c : Config) (b : BitVec 1) : Bool := b = 0 || c.nBuses = .two

end Sys2Proof.Machine
end

