-- ==== Sys2Proof/Machine/Flags.lean ====
section
/-! DEFINITION. The checksum and every test that decides STATUS, OK and REJ: the checksum function (40_checksum.md R90),
its verification (R95), and the classification of a measurement (42_frame_decoder.md R135). -/

namespace Sys2Proof.Machine

/-- `csum8`, by the recurrence of R90: `a_0 = 0`, `a_(k+1) = (a_k + b_k) mod 256`. -/
def csum8 (l : List Byte) : Byte := l.foldl (fun a b => a + b) 0

/-- The classification, first match wins (R135); `none` is "measurement usable". -/
def classify (d f : Half) : Option Status :=
  if d = -1 then some .weakSignal
  else if f = -1 then some .strongSignal
  else if d = -4 then some .ambientFlood
  else none

/-- `fail S` for a test that fails, the state as it is for one that passes. -/
def State.failIf (s : State) (o : Option Status) : State :=
  match o with
  | some st => s.fail st
  | none => s

/-- The pass/fail flag: any non-zero value is the device's failure (R144). -/
def passFailTest (flag : Byte) : Option Status := if flag = 0 then none else some .fail

end Sys2Proof.Machine
end

