-- ==== Sys2Proof/Machine/Checksum.lean ====
section
/-! DEFINITION. The checksum unit: CSUM_CLR and CSUM_ADD (40_checksum.md R91, R92). -/

namespace Sys2Proof.Machine

/-- CSUM_CLR (R91). -/
def execCsumClr (s : State) : Result := present (fun s => s.setAcc 0) s

/-- CSUM_ADD: the carry out of bit 7 is lost (R92). -/
def execCsumAdd (b : Byte) (s : State) : Result := present (fun s => s.setAcc (s.acc + b)) s

end Sys2Proof.Machine
end

