-- ==== Sys2Proof/Machine/Decoder.lean ====
section
/-! DEFINITION. The frame decoder: DECD (42_frame_decoder.md R130), DECR (R140), and the received frames, each the
host's `RX <-` of its bytes (30_encoding.md R80) followed by the decode of it. -/

namespace Sys2Proof.Machine

/-- DECD once the length is right and the checksum passes: fields, then classification (R133 to R137). -/
def decodeFields (s : State) : State :=
  (s.setFields (rxDistance s) (rxFlux s) (convertTemp (rxRawTemp s))).failIf (classify (rxDistance s) (rxFlux s))

/-- DECD (R130): the tests in the order length, checksum, classification (R207). -/
def decd (s : State) : State :=
  if s.rxlen ≠ 9 then s.enter.undefFields.fail .i2cReadError
  else
    let c := csum8 (rxRange s 8)
    if c ≠ rxRead s 8 then (s.enter.setAcc c).undefFields.fail .checksumMismatch
    else decodeFields (s.enter.setAcc c)

/-- DECR once the length is right and the checksum passes, by the kind of the reply (R143, R144, R146). -/
def decodePayload (kind : ReplyKind) (s : State) : State :=
  match kind with
  | .version => s.setVersion (rxVersion s)
  | .passFail => s.failIf (passFailTest (rxRead s 3))
  | .echo => s
  | .none => s

/-- DECR (R140): lookup, kind None, length, checksum, then the kind's own test (R207). -/
def decr (cmd : Word) (s : State) : State :=
  match lookup s.cfg.cmdTable cmd with
  | none => s.enter.reject
  | some row =>
    if row.kind = .none then s.enter
    else if s.rxlen.toNat ≠ (byteK 0 cmd).toNat then s.enter.fail .i2cReadError
    else
      let last := (byteK 0 cmd).toNat - 1
      let c := csum8 (rxRange s last)
      if c ≠ rxRead s last then (s.enter.setAcc c).fail .checksumMismatch
      else decodePayload row.kind (s.enter.setAcc c)

/-- DECD (R130). -/
def execDecd (s : State) : Result := present decd s

/-- DECR (R140). -/
def execDecr (cmd : Word) (s : State) : Result := present (decr cmd) s

/-! The received frames. The host's write ports work at any time; the decode is admitted like every operation.
DESIGN CHOICE (log entries 8 and 14): the decode of a row always sees the bytes and the length the row itself loads, also
when another host write coincides with the row, where R243 leaves old or new open; that write lands afterwards. -/

/-- REPLY_ECHO: `RX <-` the reply, `DECR cmd` (R146, R71). -/
def execReplyEcho (cmd : Word) (body : List Byte) (c : Byte) (s : State) : Result :=
  present (decr cmd) (s.loadRx (body ++ [c]))

/-- REPLY_VERSION: `RX <-` the reply, `DECR cmd` (R143, R72). -/
def execReplyVersion (cmd : Word) (x0 x1 x2 patch minor major : Byte) (extra : List Byte) (c : Byte) (s : State) :
    Result :=
  present (decr cmd) (s.loadRx ([x0, x1, x2, patch, minor, major] ++ extra ++ [c]))

/-- REPLY_PASSFAIL: `RX <-` the reply, `DECR cmd` (R144, R73). -/
def execReplyPassfail (cmd : Word) (x0 x1 x2 flag : Byte) (extra : List Byte) (c : Byte) (s : State) : Result :=
  present (decr cmd) (s.loadRx ([x0, x1, x2, flag] ++ extra ++ [c]))

/-- DATA_FRAME: `RX <-` the nine bytes, `DECD` (R130, R74). -/
def execDataFrame (h0 h1 dl dh fl fh tl th c : Byte) (s : State) : Result :=
  present decd (s.loadRx [h0, h1, dl, dh, fl, fh, tl, th, c])

end Sys2Proof.Machine
end

