-- ==== Sys2Proof/Machine/Encoder.lean ====
section
/-! DEFINITION. The frame encoder: ENC (41_frame_encoder.md R100), the eight command words (R110 to R117) and the eight
command frames (R66), each an ENC of its command. -/

namespace Sys2Proof.Machine

/-- ENC (R100, R102). The checksum is taken over offsets 0 to len-2 once the parameter is in place and stored at
offset len-1. -/
def enc (cmd param : Word) (s : State) : State :=
  match lookup s.cfg.cmdTable cmd with
  | none => s.enter.clearFrame.reject
  | some row =>
    let buf := frameBuffer row cmd param
    let last := (byteK 1 cmd).toNat - 1
    let c := csum8 (buf.take last)
    s.enter.putFrame (buf.set last c) c ((byteK 1 cmd).setWidth 4) (byteK 0 cmd)

/-- ENC (R100). -/
def execEnc (cmd param : Word) (s : State) : Result := present (enc cmd param) s

/-- GET_FIRMWARE_VERSION: its word given to ENC (R110). -/
def execGetFirmwareVersion (s : State) : Result := present (enc 0x00010407 0) s

/-- SOFT_RESET: its word given to ENC (R111). -/
def execSoftReset (s : State) : Result := present (enc 0x00020405 0) s

/-- HARD_RESET: its word given to ENC (R112). -/
def execHardReset (s : State) : Result := present (enc 0x00100405 0) s

/-- SAVE_SETTINGS: its word given to ENC (R113). -/
def execSaveSettings (s : State) : Result := present (enc 0x00110405 0) s

/-- SET_FRAME_RATE: its word given to ENC (R114). -/
def execSetFrameRate (rate : Half) (s : State) : Result := present (enc 0x00030606 (rate.setWidth 32)) s

/-- SET_BAUD_RATE: its word given to ENC (R115). -/
def execSetBaudRate (baud : Word) (s : State) : Result := present (enc 0x00060808 baud) s

/-- SET_I2C_ADDRESS: its word given to ENC (R116). -/
def execSetI2cAddress (addr : Byte) (s : State) : Result := present (enc 0x100B0505 (addr.setWidth 32)) s

/-- I2C_FORMAT_CM: its word given to ENC (R117). -/
def execI2cFormatCm (s : State) : Result := present (enc 0x01000500 0) s

/-! The command frames. "Frame built by ENC": running the row is the ENC that builds the frame of that command with
those parameter bytes. The checksum byte `c` the row shows is not an input: the block stores the sum it computes. -/

/-- GET_FIRMWARE_VERSION.frame (R110, R66). -/
def execGetFirmwareVersionFrame (_c : Byte) (s : State) : Result := present (enc 0x00010407 0) s

/-- SOFT_RESET.frame (R111, R66). -/
def execSoftResetFrame (_c : Byte) (s : State) : Result := present (enc 0x00020405 0) s

/-- HARD_RESET.frame (R112, R66). -/
def execHardResetFrame (_c : Byte) (s : State) : Result := present (enc 0x00100405 0) s

/-- SAVE_SETTINGS.frame (R113, R66). -/
def execSaveSettingsFrame (_c : Byte) (s : State) : Result := present (enc 0x00110405 0) s

/-- SET_FRAME_RATE.frame (R114, R66). -/
def execSetFrameRateFrame (p0 p1 _c : Byte) (s : State) : Result := present (enc 0x00030606 (word32 p0 p1 0 0)) s

/-- SET_BAUD_RATE.frame (R115, R66). -/
def execSetBaudRateFrame (p0 p1 p2 p3 _c : Byte) (s : State) : Result := present (enc 0x00060808 (word32 p0 p1 p2 p3)) s

/-- SET_I2C_ADDRESS.frame (R116, R66). -/
def execSetI2cAddressFrame (p0 _c : Byte) (s : State) : Result := present (enc 0x100B0505 (word32 p0 0 0 0)) s

/-- I2C_FORMAT_CM.frame (R117, R66). -/
def execI2cFormatCmFrame (_c : Byte) (s : State) : Result := present (enc 0x01000500 0) s

end Sys2Proof.Machine
end

