-- ==== Sys2Proof/Machine/Recovery.lean ====
section
/-! DEFINITION. The bus recovery FSM: RECOVER and RECOVER_ALL (43_bus_recovery.md R160, R166), the 29-step table (R163)
and the step transition (R169). -/

namespace Sys2Proof.Machine

/-- Acceptance of a recovery: `STATUS <- Ready; OK <- 1; REJ <- 0; RBUS <- b; RALL; RSTEP <- 1; BUSY <- 1` (R160,
R166). -/
def State.startRecovery (s : State) (b : Bus) (all : Bool) : State :=
  { s with status := .ready, ok := true, rej := false, rbus := b, rall := all, rstep := 1, busy := true }

/-- RECOVER (R160); a reserved code without the FSM (R62), rejected for a bus that does not exist. -/
def recover (bus : BitVec 1) (s : State) : State :=
  if s.cfg.hasRecovery = false then s.reject
  else if busExists s.cfg bus = false then s.reject
  else s.startRecovery (Bus.ofNumber bus) false

/-- RECOVER_ALL (R166); a reserved code without the FSM (R62). -/
def recoverAll (s : State) : State :=
  if s.cfg.hasRecovery = false then s.reject else s.startRecovery .bus0 (s.cfg.nBuses == .two)

/-- RECOVER (R160). -/
def execRecover (bus : BitVec 1) (s : State) : Result := present (recover bus) s

/-- RECOVER_ALL (R166). -/
def execRecoverAll (s : State) : Result := present recoverAll s

/-- The step table of R163, row by row: the event of step `n` on bus `b`, and the wait after it. -/
def recoveryStep (b : Bus) (n : Nat) : Option TraceEntry :=
  match n with
  | 1 => some ⟨.modeOut b .sda, .none⟩
  | 2 => some ⟨.modeOut b .scl, .none⟩
  | 3 => some ⟨.write b .sda true, .none⟩
  | 4 => some ⟨.write b .scl true, .pulse⟩
  | 5 => some ⟨.write b .scl false, .pulse⟩
  | 6 => some ⟨.write b .scl true, .pulse⟩
  | 7 => some ⟨.write b .scl false, .pulse⟩
  | 8 => some ⟨.write b .scl true, .pulse⟩
  | 9 => some ⟨.write b .scl false, .pulse⟩
  | 10 => some ⟨.write b .scl true, .pulse⟩
  | 11 => some ⟨.write b .scl false, .pulse⟩
  | 12 => some ⟨.write b .scl true, .pulse⟩
  | 13 => some ⟨.write b .scl false, .pulse⟩
  | 14 => some ⟨.write b .scl true, .pulse⟩
  | 15 => some ⟨.write b .scl false, .pulse⟩
  | 16 => some ⟨.write b .scl true, .pulse⟩
  | 17 => some ⟨.write b .scl false, .pulse⟩
  | 18 => some ⟨.write b .scl true, .pulse⟩
  | 19 => some ⟨.write b .scl false, .pulse⟩
  | 20 => some ⟨.write b .scl true, .pulse⟩
  | 21 => some ⟨.write b .scl false, .pulse⟩
  | 22 => some ⟨.write b .scl true, .pulse⟩
  | 23 => some ⟨.write b .scl false, .pulse⟩
  | 24 => some ⟨.write b .sda false, .stopA⟩
  | 25 => some ⟨.write b .scl true, .stopB⟩
  | 26 => some ⟨.write b .sda true, .stopC⟩
  | 27 => some ⟨.modeIn b .sda, .none⟩
  | 28 => some ⟨.modeIn b .scl, .none⟩
  | 29 => some ⟨.reinit b, .none⟩
  | _ => none

/-- The least duration of a wait, in microseconds (R167). -/
def Wait.duration (c : Config) : Wait → Nat
  | .none => 0
  | .pulse => c.tPulse
  | .stopA => c.tStopA
  | .stopB => c.tStopB
  | .stopC => c.tStopC

/-- The latch effect of an event on its bus (R161). -/
def PinLatches.apply (p : PinLatches) : PinEvent → PinLatches
  | .modeOut _ .sda => { p with sdaOe := true }
  | .modeOut _ .scl => { p with sclOe := true }
  | .modeIn _ .sda => { p with sdaOe := false }
  | .modeIn _ .scl => { p with sclOe := false }
  | .write _ .sda v => { p with sdaOut := v }
  | .write _ .scl v => { p with sclOut := v }
  | .reinit _ => p

/-- "emit the event of step RSTEP on bus RBUS and apply its latch effect" (R169). -/
def State.emitStep (s : State) : State :=
  match recoveryStep s.rbus s.rstep.toNat with
  | some e => (s.setPins s.rbus ((s.pins s.rbus).apply e.event)).emit e
  | none => s

/-- The sequencing of R169: the next step, the second bus, or the end, where `done` is raised. -/
def State.advance (s : State) : State :=
  if s.rstep.toNat < 29 then { s with rstep := s.rstep + 1, done := false }
  else if s.rall = true ∧ s.rbus = .bus0 then { s with rbus := .bus1, rstep := 1, done := false }
  else { s with rstep := 0, rbus := .bus0, rall := false, busy := false, done := true }

/-- One step of the FSM (R169). -/
def fsmStep (s : State) : State := s.emitStep.advance

end Sys2Proof.Machine
end

