-- ==== Sys2Proof/Machine/StatusPort.lean ====
section
/-! DEFINITION. The status register and the operation port: NOP (44_session_contract.md R180), STSET (R181) and the
status codes given to it (60_exceptions.md R200, R201), and the reserved operation codes (30_encoding.md R62). -/

namespace Sys2Proof.Machine

/-- NOP: every register keeps its value (R180). -/
def execNop (s : State) : Result := present (fun s => s) s

/-- STSET (R181): codes above 12 are rejected, and STATUS then keeps its value. -/
def stset (code : Nibble) (s : State) : State :=
  match Status.ofCode code with
  | none => s.reject
  | some st => s.record st

/-- STSET (R181). -/
def execStset (code : Nibble) (s : State) : Result := present (stset code) s

/-- A reserved operation code: `REJ <- 1; OK <- 0`, nothing else (R62). -/
def reservedCode (s : State) : State := s.reject

/-- Operation code 9, reserved (R62). -/
def execReserved9 (s : State) : Result := present reservedCode s

/-- Operation code 10, reserved (R62). -/
def execReserved10 (s : State) : Result := present reservedCode s

/-- Operation code 11, reserved (R62). -/
def execReserved11 (s : State) : Result := present reservedCode s

/-- Operation code 12, reserved (R62). -/
def execReserved12 (s : State) : Result := present reservedCode s

/-- Operation code 13, reserved (R62). -/
def execReserved13 (s : State) : Result := present reservedCode s

/-- Operation code 14, reserved (R62). -/
def execReserved14 (s : State) : Result := present reservedCode s

/-- Operation code 15, reserved (R62). -/
def execReserved15 (s : State) : Result := present reservedCode s

/-- Status code 0 given to STSET (R200, R181). -/
def execStReady (s : State) : Result := present (stset 0) s

/-- Status code 1 given to STSET (R200, R181). -/
def execStSerialTimeout (s : State) : Result := present (stset 1) s

/-- Status code 2 given to STSET (R200, R181). -/
def execStHeaderNotFound (s : State) : Result := present (stset 2) s

/-- Status code 3 given to STSET (R200, R181). -/
def execStChecksumMismatch (s : State) : Result := present (stset 3) s

/-- Status code 4 given to STSET (R200, R181). -/
def execStDeviceTimeout (s : State) : Result := present (stset 4) s

/-- Status code 5 given to STSET (R200, R181). -/
def execStPass (s : State) : Result := present (stset 5) s

/-- Status code 6 given to STSET (R200, R181). -/
def execStFail (s : State) : Result := present (stset 6) s

/-- Status code 7 given to STSET (R200, R181). -/
def execStI2cReadError (s : State) : Result := present (stset 7) s

/-- Status code 8 given to STSET (R200, R181). -/
def execStI2cWriteError (s : State) : Result := present (stset 8) s

/-- Status code 9 given to STSET (R200, R181). -/
def execStI2cLengthError (s : State) : Result := present (stset 9) s

/-- Status code 10 given to STSET (R200, R181). -/
def execStWeakSignal (s : State) : Result := present (stset 10) s

/-- Status code 11 given to STSET (R200, R181). -/
def execStStrongSignal (s : State) : Result := present (stset 11) s

/-- Status code 12 given to STSET (R200, R181). -/
def execStAmbientFlood (s : State) : Result := present (stset 12) s

/-- Status code 13 given to STSET (R201, R181). -/
def execStReserved13 (s : State) : Result := present (stset 13) s

/-- Status code 14 given to STSET (R201, R181). -/
def execStReserved14 (s : State) : Result := present (stset 14) s

/-- Status code 15 given to STSET (R201, R181). -/
def execStReserved15 (s : State) : Result := present (stset 15) s

end Sys2Proof.Machine
end

