-- ==== Sys2Proof/Machine/Dispatch.lean ====
section
/-! DEFINITION. One arm per instruction, each one call of its meaning. -/

namespace Sys2Proof.Machine

def exec (i : Instr) (s : State) : Host.Outcome State Fault Refusal :=
  match i with
  | .nop => Sys2Proof.Machine.execNop s
  | .csumClr => Sys2Proof.Machine.execCsumClr s
  | .csumAdd b => Sys2Proof.Machine.execCsumAdd b s
  | .enc cmd param => Sys2Proof.Machine.execEnc cmd param s
  | .decd => Sys2Proof.Machine.execDecd s
  | .decr cmd => Sys2Proof.Machine.execDecr cmd s
  | .stset code => Sys2Proof.Machine.execStset code s
  | .recover bus => Sys2Proof.Machine.execRecover bus s
  | .recoverAll => Sys2Proof.Machine.execRecoverAll s
  | .reserved9 => Sys2Proof.Machine.execReserved9 s
  | .reserved10 => Sys2Proof.Machine.execReserved10 s
  | .reserved11 => Sys2Proof.Machine.execReserved11 s
  | .reserved12 => Sys2Proof.Machine.execReserved12 s
  | .reserved13 => Sys2Proof.Machine.execReserved13 s
  | .reserved14 => Sys2Proof.Machine.execReserved14 s
  | .reserved15 => Sys2Proof.Machine.execReserved15 s
  | .getFirmwareVersion => Sys2Proof.Machine.execGetFirmwareVersion s
  | .getFirmwareVersionFrame c => Sys2Proof.Machine.execGetFirmwareVersionFrame c s
  | .softReset => Sys2Proof.Machine.execSoftReset s
  | .softResetFrame c => Sys2Proof.Machine.execSoftResetFrame c s
  | .hardReset => Sys2Proof.Machine.execHardReset s
  | .hardResetFrame c => Sys2Proof.Machine.execHardResetFrame c s
  | .saveSettings => Sys2Proof.Machine.execSaveSettings s
  | .saveSettingsFrame c => Sys2Proof.Machine.execSaveSettingsFrame c s
  | .setFrameRate rate => Sys2Proof.Machine.execSetFrameRate rate s
  | .setFrameRateFrame p0 p1 c => Sys2Proof.Machine.execSetFrameRateFrame p0 p1 c s
  | .setBaudRate baud => Sys2Proof.Machine.execSetBaudRate baud s
  | .setBaudRateFrame p0 p1 p2 p3 c => Sys2Proof.Machine.execSetBaudRateFrame p0 p1 p2 p3 c s
  | .setI2cAddress addr => Sys2Proof.Machine.execSetI2cAddress addr s
  | .setI2cAddressFrame p0 c => Sys2Proof.Machine.execSetI2cAddressFrame p0 c s
  | .i2cFormatCm => Sys2Proof.Machine.execI2cFormatCm s
  | .i2cFormatCmFrame c => Sys2Proof.Machine.execI2cFormatCmFrame c s
  | .replyEcho cmd body c => Sys2Proof.Machine.execReplyEcho cmd body c s
  | .replyVersion cmd x0 x1 x2 patch minor major extra c => Sys2Proof.Machine.execReplyVersion cmd x0 x1 x2 patch minor major extra c s
  | .replyPassfail cmd x0 x1 x2 flag extra c => Sys2Proof.Machine.execReplyPassfail cmd x0 x1 x2 flag extra c s
  | .dataFrame h0 h1 dl dh fl fh tl th c => Sys2Proof.Machine.execDataFrame h0 h1 dl dh fl fh tl th c s
  | .stReady => Sys2Proof.Machine.execStReady s
  | .stSerialTimeout => Sys2Proof.Machine.execStSerialTimeout s
  | .stHeaderNotFound => Sys2Proof.Machine.execStHeaderNotFound s
  | .stChecksumMismatch => Sys2Proof.Machine.execStChecksumMismatch s
  | .stDeviceTimeout => Sys2Proof.Machine.execStDeviceTimeout s
  | .stPass => Sys2Proof.Machine.execStPass s
  | .stFail => Sys2Proof.Machine.execStFail s
  | .stI2cReadError => Sys2Proof.Machine.execStI2cReadError s
  | .stI2cWriteError => Sys2Proof.Machine.execStI2cWriteError s
  | .stI2cLengthError => Sys2Proof.Machine.execStI2cLengthError s
  | .stWeakSignal => Sys2Proof.Machine.execStWeakSignal s
  | .stStrongSignal => Sys2Proof.Machine.execStStrongSignal s
  | .stAmbientFlood => Sys2Proof.Machine.execStAmbientFlood s
  | .stReserved13 => Sys2Proof.Machine.execStReserved13 s
  | .stReserved14 => Sys2Proof.Machine.execStReserved14 s
  | .stReserved15 => Sys2Proof.Machine.execStReserved15 s

end Sys2Proof.Machine
end

