-- ==== Sys2Proof/Machine/Fetch.lean ====
section
/-! DEFINITION. What one step of the machine does. The block fetches nothing (00_scope.md R1): a step takes the next
thing the outside world does (10_state.md R31), or, when it does nothing, one step of the recovery FSM. -/

namespace Sys2Proof.Machine

/-- The next event of the outside world and the state without it; with none left the block is left alone. -/
def takeEvent (s : State) : HostEvent × State :=
  match s.inbox with
  | [] => (.idle, s)
  | e :: rest => (e, { s with inbox := rest })

/-- `done` after a presented item: raised when it was accepted and has completed; an accepted recovery completes at its
last step (R31). -/
def raiseDone (wasBusy : Bool) (o : Result) : Result :=
  match o with
  | .next t => .next { t with done := !wasBusy && !t.busy }
  | .fault r => .fault r
  | .refused r => .refused r

/-- An item on the ports: decode it and run it. -/
def runRequest (r : Request) (s : State) : Result :=
  match decode r with
  | .ok i => raiseDone s.busy (exec i s)
  | .error e => .refused (.undecodable e)

/-- The state a presented item finds when a write coincides with it: with the old or the new value, unspecified which
(R243, U5; log entry 14). DESIGN CHOICE: for a received-frame row the choice is made before the row's own load, which
overwrites `RXLEN` and every cell its decode reads, so that decode never sees the coinciding value. -/
def seenDuring (w : HostWrite) (s : State) : State :=
  if Config.freeSeesNew s.draws then { s with draws := s.draws + 1 }.hostWrite w else { s with draws := s.draws + 1 }

/-- The coinciding write itself, which lands in any case: no operation writes the receive buffer (R42). -/
def landWrite (w : HostWrite) (o : Result) : Result :=
  match o with
  | .next t => .next (t.hostWrite w)
  | .fault r => .fault r
  | .refused r => .refused r

/-- Nothing presented: the FSM takes its next step if it runs (R169); otherwise nothing happens. -/
def tick (s : State) : State := if s.busy then fsmStep s else { s with done := false }

/-- The effect of one event. -/
def react (ev : HostEvent) (s : State) : Result :=
  match ev with
  | .present r => runRequest r s
  | .write w => .next { s.hostWrite w with done := false }
  | .presentDuring w r => landWrite w (runRequest r (seenDuring w s))
  | .reset => .next s.hwReset
  | .idle => .next (tick s)

/-- An instruction put where the step takes its next event: presented first. -/
def presentFirst (s : State) (r : Request) : State := { s with inbox := .present r :: s.inbox }

end Sys2Proof.Machine
end

