-- ==== Sys2Proof/Machine/Step.lean ====
section
/-! DEFINITION. The step of the machine, and how an instruction of the opcode table is put where it takes the next
one. -/

namespace Sys2Proof.Machine

/-- One step: the next event of the outside world (R31: accepted operations "interleaved with FSM steps and host buffer
writes"). -/
def step (s : State) : Host.Outcome State Fault Refusal := react (takeEvent s).1 (takeEvent s).2

/-- `s` with the item whose table bits are `w` presented next, so that the next step runs it. -/
def State.withFetchWord (s : State) (nbits w : Nat) : State := presentFirst s (tableRequest nbits w)

end Sys2Proof.Machine
end

