-- ==== Sys2Proof/Machine/Collaborators.lean ====
section
/-! DEFINITION. The environment, not the block: what is asked of the two external collaborators (60_exceptions.md R222,
44_session_contract.md R195), each call with the answer it gave, and the host's wait (30_encoding.md R80). -/

namespace Sys2Proof.Machine

/-- The seven operations of the bus collaborator (R195), with their results: the count write() accepted, the error code of
end-write(), the answer of byte-available-peek() and the byte of read-byte(). `reinitialize()` is asked by the block, for a
bus (R168, R222). -/
inductive BusCall where
  | beginWrite (addr : Byte)
  | write (bytes : List Byte) (count : Nat)
  | endWrite (sendStop : Bool) (errorCode : Nat)
  | requestRead (addr : Byte) (len : Nat) (sendStop : Bool)
  | byteAvailablePeek (available : Bool)
  | readByte (got : Byte)
  | reinitialize (b : Bus)
deriving DecidableEq, Repr

/-- The three operations of the pin-level collaborator (R222 (b)). -/
inductive PinCall where
  | setPinMode (pin : Nat) (output : Bool)
  | writePin (pin : Nat) (level : Bool)
  | sleepMicroseconds (atLeast : Nat)
deriving DecidableEq, Repr

/-- What the environment sees asked: a call of a collaborator, or the host's settling wait (`WAIT`, R80, R185). -/
inductive Call where
  | bus (c : BusCall)
  | pin (c : PinCall)
  | settle (atLeast : Nat)
deriving DecidableEq, Repr

/-- A call that asks for a stop condition, which releases the bus (R195). -/
def releasesBus : Call → Bool
  | .bus (.endWrite sendStop _) => sendStop
  | .bus (.requestRead _ _ sendStop) => sendStop
  | _ => false

/-- A call that asks for a read: the only one that performs the addressed read (R195). -/
def requestsRead : Call → Bool
  | .bus (.requestRead _ _ _) => true
  | _ => false

end Sys2Proof.Machine
end

