-- ==== Sys2Proof/Machine/Pins.lean ====
section
/-! DEFINITION. The pin-level collaborator the FSM works through (60_exceptions.md R222 (b)): the pins `PINS[b]` of a bus
(00_scope.md R5), the call of R161's table that each pin event is, and the host's names for the recoveries (30_encoding.md
R81). -/

namespace Sys2Proof.Machine

/-- `PINS[b]` (R5): the pair the parameters name, else the board's, a free value. -/
def pinsOf (c : Config) : Bus → PinPair
  | .bus0 => c.pins0.getD ⟨Config.boardDataPin 0, Config.boardClockPin 0⟩
  | .bus1 => c.pins1.getD ⟨Config.boardDataPin 1, Config.boardClockPin 1⟩

/-- The pin of a line of a bus: SDA is the data line, SCL the clock line (R9). -/
def pinOf (c : Config) (b : Bus) : Line → Nat
  | .sda => (pinsOf c b).data
  | .scl => (pinsOf c b).clock

/-- The document's primitive a pin event is (R161): one of the pin-level collaborator, or `reinitialize()` of the bus
collaborator (R168). -/
def eventCall (c : Config) : PinEvent → Call
  | .modeOut b l => .pin (.setPinMode (pinOf c b l) true)
  | .modeIn b l => .pin (.setPinMode (pinOf c b l) false)
  | .write b l level => .pin (.writePin (pinOf c b l) level)
  | .reinit b => .bus (.reinitialize b)

/-- The calls of one entry of the trace: the event, then the least wait after it, if it has one (R163, R167). -/
def entryCalls (c : Config) (e : TraceEntry) : List Call :=
  match e.wait with
  | .none => [eventCall c e.event]
  | w => [eventCall c e.event, .pin (.sleepMicroseconds (w.duration c))]

/-- Every call the block has made of the collaborators: what they see of the trace. -/
def pinCalls (s : State) : List Call := s.trace.flatMap (entryCalls s.cfg)

/-- The bus whose `PINS[b]` is the pair (R81). -/
def busOfPins (c : Config) (p : PinPair) : Option (BitVec 1) :=
  if pinsOf c .bus0 = p then some 0
  else if busExists c 1 ∧ pinsOf c .bus1 = p then some 1
  else none

/-- `recoverBus(dataPin, clockPin)`: RECOVER of the bus that has the pair, if one has it (R81, R160). -/
def recoverBus (p : PinPair) (s : State) : Option State := (busOfPins s.cfg p).map (fun b => admitted (recover b) s)

/-- `recoverDefaultBuses()`: RECOVER_ALL (R81, R166). -/
def recoverDefaultBuses (s : State) : State := admitted recoverAll s

end Sys2Proof.Machine
end

