-- ==== Sys2Proof/Machine/Ports.lean ====
section
/-! DEFINITION. The output ports a host reads (10_state.md R30). No read has a side effect (20_memory.md R46). A register
that holds UNDEF gives a free value at each read (00_scope.md R7), the argument `draw` telling the reads apart. -/

namespace Sys2Proof.Machine

/-- `tx_addr`, `tx_rdata`: a cell of `TXBUF` (R41); a free value before the first `ENC` (R230). -/
def txRdata (s : State) (addr : BitVec 3) : Byte :=
  (Memory.read s.txbuf addr.toNat).getD (Config.freeTxCell s.epoch addr.toNat)

/-- `TX ->`: the host reads `TXBUF[0..TXLEN-1]` (R80). -/
def txFrame (s : State) : List Byte :=
  (List.range s.txlen.toNat).map (fun i => txRdata s (BitVec.ofNat 3 i))

/-- `dist`. -/
def distPort (s : State) (draw : Nat) : Half := s.dist.getD (Config.freeHalf draw)

/-- `flux`. -/
def fluxPort (s : State) (draw : Nat) : Half := s.flux.getD (Config.freeHalf draw)

/-- `temp`. -/
def tempPort (s : State) (draw : Nat) : Half := s.temp.getD (Config.freeHalf draw)

/-- `ver0`, the major component (R14). -/
def ver0Port (s : State) (draw : Nat) : Byte := (s.ver.map Version.major).getD (Config.freeByte draw)

/-- `ver1`, the minor component. -/
def ver1Port (s : State) (draw : Nat) : Byte := (s.ver.map Version.minor).getD (Config.freeByte draw)

/-- `ver2`, the patch-equivalent component. -/
def ver2Port (s : State) (draw : Nat) : Byte := (s.ver.map Version.patch).getD (Config.freeByte draw)

/-- `status`: the 4-bit code (R200). -/
def statusPort (s : State) : Nibble := s.status.code

/-- The level the block drives on a line of a bus, if it drives it (R22). -/
def drivenLevel (s : State) (b : Bus) (l : Line) : Option Bool :=
  let p := match b with | .bus0 => s.pins0 | .bus1 => s.pins1
  match l with
  | .sda => if p.sdaOe then some p.sdaOut else none
  | .scl => if p.sclOe then some p.sclOut else none

end Sys2Proof.Machine
end

