-- ==== Sys2Proof/Machine/Session.lean ====
section
/-! DEFINITION. The environment, not the block: the host sequences of 44_session_contract.md (R182 to R191) and
30_encoding.md R81, as functions over the block's own operations. What the bus collaborator answers and what the rules
leave to the host are arguments, free in every claim, and the calls made are part of the result (log entry 15). -/

namespace Sys2Proof.Machine

/-- What the bus collaborator answers in one exchange: the count of write(), the error code of end-write(), and the bytes
that become available after request-read (R183, R195). -/
structure BusAnswer where
  accepted  : Nat
  errorCode : Nat
  available : List Byte
deriving DecidableEq, Repr

/-- The two ways of R189 with a short read: the status recorded by STSET and no decode, or the short count in `RXLEN`
and the decode, which fails. -/
inductive ShortRead where
  | record | decode
deriving DecidableEq, Repr

/-- What the rules leave to the host in one read: `sendStop` of request-read, and the way with a short read. -/
structure ReadChoice where
  sendStop : Bool
  short    : ShortRead
deriving DecidableEq, Repr

/-- What the rules leave to the host in a sequence: `sendStop` of end-write, the read of a reply and that of a data
frame. -/
structure HostChoice where
  writeStop : Bool
  reply     : ReadChoice
  frame     : ReadChoice
deriving DecidableEq, Repr

/-- A host sequence: the state of the block it leaves, its success, and the calls it made, in order. -/
structure Exchange where
  state   : State
  success : Bool
  calls   : List Call
deriving DecidableEq, Repr

/-- The three values of a measurement. -/
structure Measurement where
  dist : Half
  flux : Half
  temp : Half
deriving DecidableEq, Repr

/-- A measurement sequence: the exchange, and the values it gives its caller, if any. -/
structure Reading where
  exchange : Exchange
  values   : Option Measurement
deriving DecidableEq, Repr

/-- The word of the row of `CMD_TABLE` with a name (R67). -/
def commandWord (c : Config) (name : String) : Option Word :=
  (c.cmdTable.find? (fun r => r.name == name)).map CmdRow.word

/-- Whether a word is that of the address-change command: its row is named `SET_I2C_ADDRESS` (R67, R186). -/
def isAddressChange (c : Config) (cmd : Word) : Bool :=
  match lookup c.cmdTable cmd with
  | some row => row.name == "SET_I2C_ADDRESS"
  | none => false

/-- The address the reply is read from: the new one for the address-change command (R186). -/
def replyAddress (c : Config) (cmd param : Word) (address : Byte) : Byte :=
  if isAddressChange c cmd then byteK 0 param else address

/-- `T_SETTLE` (R5, R185): the value the parameters name, else a free value, since R5 gives no default. -/
def settleTime (c : Config) : Nat := c.tSettle.getD Config.freeSettle

/-- The write of a frame, step (2) of R182. -/
def writeCalls (address : Byte) (frame : List Byte) (sendStop : Bool) (bus : BusAnswer) : List Call :=
  [.bus (.beginWrite address), .bus (.write frame bus.accepted), .bus (.endWrite sendStop bus.errorCode)]

/-- At most `n` bytes read one by one, a peek before each, ending at the first that is missing (R188, R189). -/
def readCalls : Nat → List Byte → List Call
  | 0, _ => []
  | _ + 1, [] => [.bus (.byteAvailablePeek false)]
  | n + 1, b :: bs => .bus (.byteAvailablePeek true) :: .bus (.readByte b) :: readCalls n bs

/-- The request for `n` bytes and their reading (R182, R188). -/
def requestCalls (address : Byte) (n : Nat) (r : ReadChoice) (available : List Byte) : List Call :=
  .bus (.requestRead address n r.sendStop) :: readCalls n available

/-- The end of a read of `n` bytes: `RX <-` the bytes and the decode, or on a short read the host's way (R81, R187,
R189). -/
def finishRead (r : ReadChoice) (n : Nat) (available : List Byte) (decode : State → State) (s : State) : State :=
  if available.length < n ∧ r.short = .record then admitted (stset 7) s
  else admitted decode (s.loadRx (available.take n))

/-- `sendCommand`, steps (1) to (7) of R182 with the write checks of R183. -/
def sendCommand (cmd param : Word) (address : Byte) (h : HostChoice) (bus : BusAnswer) (s : State) : Exchange :=
  let s1 := admitted (enc cmd param) s
  let written := writeCalls address (txFrame s1) h.writeStop bus
  if s1.rej then ⟨s1, false, []⟩
  else if bus.accepted < s1.txlen.toNat then ⟨admitted (stset 9) s1, false, written⟩
  else if bus.errorCode ≠ 0 then ⟨admitted (stset 8) s1, false, written⟩
  else if s1.rplen = 0 then ⟨s1, true, written⟩
  else
    let n := s1.rplen.toNat
    let s2 := finishRead h.reply n bus.available (decr cmd) s1
    ⟨s2, s2.ok,
      written ++ .settle (settleTime s.cfg) :: requestCalls (replyAddress s.cfg cmd param address) n h.reply bus.available⟩

/-- The values the measurement registers hold, if they hold any (R188). -/
def measured (s : State) : Option Measurement :=
  match s.mvalid, s.dist, s.flux, s.temp with
  | true, some d, some f, some t => some ⟨d, f, t⟩
  | _, _, _, _ => none

/-- Steps (2) to (5) of R188: nine bytes asked for, read and decoded. A frame that came short gives no values, the
registers keeping the previous ones or not (R189). -/
def readFrame (address : Byte) (r : ReadChoice) (available : List Byte) (sent : Exchange) : Reading :=
  let s2 := finishRead r 9 available decd sent.state
  ⟨⟨s2, s2.ok, sent.calls ++ requestCalls address 9 r available⟩,
    if available.length < 9 then none else measured s2⟩

/-- `getData`, R188: the format command, then the frame. A table without a row named `I2C_FORMAT_CM` gives the host no
command to send, and the sequence fails before anything is asked of the block. -/
def getData (address : Byte) (h : HostChoice) (bus : BusAnswer) (available : List Byte) (s : State) : Reading :=
  match commandWord s.cfg "I2C_FORMAT_CM" with
  | none => ⟨⟨s, false, []⟩, none⟩
  | some cmd =>
    let sent := sendCommand cmd 0 address h bus s
    if sent.success then readFrame address h.frame available sent else ⟨sent, none⟩

/-- `readMeasurement`, the document's name of `getData`, with the way of a short frame R81 writes out. -/
def readMeasurement (address : Byte) (h : HostChoice) (bus : BusAnswer) (available : List Byte) (s : State) : Reading :=
  getData address { h with frame := { h.frame with short := .record } } bus available s

/-- The address a sequence is given, `DEFAULT_ADDR` where it is omitted (R81, R191). -/
def addressOr (given : Option Byte) : Byte := given.getD Config.defaultAddr

/-- `getData` with the address omitted (R190, R191). -/
def getDataDefault (h : HostChoice) (bus : BusAnswer) (available : List Byte) (s : State) : Reading :=
  getData (addressOr none) h bus available s

/-- `readDistanceOnly`: the full form, flux and temperature ignored (R190, R81). -/
def readDistanceOnly (address : Byte) (h : HostChoice) (bus : BusAnswer) (available : List Byte) (s : State) :
    Option Half × Bool :=
  let r := readMeasurement address h bus available s
  (r.values.map Measurement.dist, r.exchange.success)

end Sys2Proof.Machine
end

