-- ==== Sys2Proof/Safety.lean ====
section
/-! DEFINITION. The terms claims use: the layouts of the spec written as plain lists, beside the machine's own way of
building them; the invariant of the state; and what a safe state is. -/

namespace Sys2Proof.Machine

/-! ### Frames -/

/-- The parameter bytes of a command (R69), as the list R66 shows. -/
def paramBytes (row : CmdRow) (param : Word) : List Byte :=
  match row.psrc with
  | .none => []
  | .inline => [row.inl]
  | .ext => (List.range row.pw).map (fun j => byteK j param)

/-- The bytes of a command frame before its checksum (R66). -/
def commandBody (row : CmdRow) (param : Word) : List Byte :=
  [0x5A, BitVec.ofNat 8 row.len, row.opc] ++ paramBytes row param

/-- The command frame of R66. -/
def commandFrame (row : CmdRow) (param : Word) : List Byte :=
  commandBody row param ++ [csum8 (commandBody row param)]

/-- The eight transmit cells that hold a frame, zero beyond it (R41). -/
def padTo8 (frame : List Byte) : List Byte := frame ++ List.replicate (8 - frame.length) 0

/-- The state after a successful ENC whose frame is `body` and its checksum, with reply length `rpl` (R100). -/
def State.encoded (s : State) (body : List Byte) (rpl : Byte) : State :=
  { s with
    status := .ready, ok := true, rej := false, acc := csum8 body,
    txbuf := Memory.ofBytes 0 (padTo8 (body ++ [csum8 body])),
    txlen := BitVec.ofNat 4 (body.length + 1), rplen := rpl }

/-- The state after an ENC that left the eight given transmit cells, the frame length `len`, the reply length `rpl` and
the checksum `c` (R100). -/
def State.holdsFrame (s : State) (cells : List Byte) (len : Nibble) (c rpl : Byte) : State :=
  { s with
    status := .ready, ok := true, rej := false, acc := c,
    txbuf := Memory.ofBytes 0 cells, txlen := len, rplen := rpl }

/-- A frame passes the checksum when its last byte is the checksum of the bytes before it (R95). -/
def passesChecksum (frame : List Byte) : Prop :=
  match splitLast frame with
  | some (body, c) => csum8 body = c
  | none => False

/-- The number a little-endian list of bytes stands for (R47). -/
def littleEndian : List Byte → Nat
  | [] => 0
  | b :: bs => b.toNat + 256 * littleEndian bs


/-- The bytes a row places in `RXBUF` before its decode: those of the received frames, none for the other rows. -/
def receivedBytes : Instr → Option (List Byte)
  | .replyEcho _ body c => some (body ++ [c])
  | .replyVersion _ x0 x1 x2 patch minor major extra c => some ([x0, x1, x2, patch, minor, major] ++ extra ++ [c])
  | .replyPassfail _ x0 x1 x2 flag extra c => some ([x0, x1, x2, flag] ++ extra ++ [c])
  | .dataFrame h0 h1 dl dh fl fh tl th c => some [h0, h1, dl, dh, fl, fh, tl, th, c]
  | _ => none

/-- The command a decode is told the reply answers: the `cmd` operand of DECR. -/
def answersCommand : Instr → Option Word
  | .decr cmd => some cmd
  | .replyEcho cmd _ _ => some cmd
  | .replyVersion cmd _ _ _ _ _ _ _ _ => some cmd
  | .replyPassfail cmd _ _ _ _ _ _ => some cmd
  | _ => none

/-- Instructions run one after the other through `exec`, stopping at the first that gives no next state. -/
def execAll : List Instr → State → Result
  | [], s => .next s
  | i :: is, s =>
    match exec i s with
    | .next t => execAll is t
    | .fault r => .fault r
    | .refused r => .refused r

/-- What the host sees of a measurement (R137): the status of a frame that decoded, by signed fields. -/
def measurementStatus (d f : Int) : Status :=
  if d = -1 then .weakSignal else if f = -1 then .strongSignal else if d = -4 then .ambientFlood else .ready

/-- What a reply row `i`, for the command `cmd`, with the bytes `body` before its last byte `c`, leaves in each case of
R140, beside the host's load of its bytes: an unknown command, one without a reply, a wrong length, a wrong checksum, and
a reply that passes, by the kind of the command and not of the row (R247). -/
def ReplyRowOutcomes (i : Instr) (cmd : Word) (body : List Byte) (c : Byte) : Prop :=
  ∀ s : State, s.cfg.wellFormed = true → s.busy = false →
    let t := s.loadRx (body ++ [c])
    ((∀ row ∈ s.cfg.cmdTable, row.word ≠ cmd) →
      exec i s = .next { t with status := .ready, ok := false, rej := true }) ∧
    ∀ row ∈ s.cfg.cmdTable, row.word = cmd →
      (row.kind = .none → exec i s = .next { t with status := .ready, ok := true, rej := false }) ∧
      (row.kind ≠ .none → body.length + 1 ≠ row.rpl →
        exec i s = .next { t with status := .i2cReadError, ok := false, rej := false }) ∧
      (row.kind ≠ .none → body.length + 1 = row.rpl → c ≠ csum8 body →
        exec i s = .next { t with status := .checksumMismatch, ok := false, rej := false, acc := csum8 body }) ∧
      (row.kind = .version → body.length + 1 = row.rpl → c = csum8 body →
        exec i s =
          .next { t with
            status := .ready, ok := true, rej := false, acc := csum8 body,
            ver := some ⟨body.getD 5 0, body.getD 4 0, body.getD 3 0⟩, vvalid := true }) ∧
      (row.kind = .passFail → body.length + 1 = row.rpl → c = csum8 body →
        exec i s =
          .next { t with
            status := if body.getD 3 0 = 0 then .ready else .fail, ok := decide (body.getD 3 0 = 0), rej := false,
            acc := csum8 body }) ∧
      (row.kind = .echo → body.length + 1 = row.rpl → c = csum8 body →
        exec i s = .next { t with status := .ready, ok := true, rej := false, acc := csum8 body })

/-! ### The recovery -/

/-- The other bus. -/
def Bus.other : Bus → Bus
  | .bus0 => .bus1
  | .bus1 => .bus0

/-- One pulse of the clock, "high then low" (R162). -/
def clockPulse (b : Bus) : List TraceEntry := [⟨.write b .scl true, .pulse⟩, ⟨.write b .scl false, .pulse⟩]

/-- The whole trace of one recovery of a bus: data high, ten pulses, the stop, release, reinitialise (R162, R164). -/
def recoveryTrace (b : Bus) : List TraceEntry :=
  [⟨.modeOut b .sda, .none⟩, ⟨.modeOut b .scl, .none⟩, ⟨.write b .sda true, .none⟩] ++
  (List.replicate 10 (clockPulse b)).flatten ++
  [⟨.write b .sda false, .stopA⟩, ⟨.write b .scl true, .stopB⟩, ⟨.write b .sda true, .stopC⟩,
   ⟨.modeIn b .sda, .none⟩, ⟨.modeIn b .scl, .none⟩, ⟨.reinit b, .none⟩]

/-- The two columns "SDA (oe,out) after" and "SCL (oe,out) after" of R163: the latches of the bus after step `n`. -/
def latchesAfter (n : Nat) : PinLatches :=
  if n = 0 then ⟨false, true, false, true⟩
  else if n = 1 then ⟨true, true, false, true⟩
  else if n ≤ 4 then ⟨true, true, true, true⟩
  else if n ≤ 23 then ⟨true, true, true, n % 2 = 0⟩
  else if n = 24 then ⟨true, false, true, false⟩
  else if n = 25 then ⟨true, false, true, true⟩
  else if n = 26 then ⟨true, true, true, true⟩
  else if n = 27 then ⟨false, true, true, true⟩
  else ⟨false, true, false, true⟩

/-- The state in which a recovery of `b` has ended (R169, R170): the FSM idle, every latch at its reset value. -/
def State.recovered (s : State) (trace : List TraceEntry) : State :=
  { s with
    rstep := 0, rbus := .bus0, rall := false, busy := false, done := true,
    pins0 := PinLatches.idle, pins1 := PinLatches.idle, trace := trace }

/-! ### The invariant -/

/-- The transmit buffer: nothing listed and no frame, or all eight cells and a length of at most 8 (R41, R10). -/
def State.txOk (s : State) : Prop :=
  (s.txbuf = [] ∧ s.txlen = 0) ∨ (s.txbuf.map Prod.fst = List.range 8 ∧ s.txlen.toNat ≤ 8)

/-- The receive buffer: canonical, and no cell beyond offset 8 (R40, R42). -/
def State.rxOk (s : State) : Prop := Memory.wf s.rxbuf = true ∧ ∀ c ∈ s.rxbuf, c.1 ≤ 8

/-- `MVALID` and `VVALID` say exactly when the registers hold a value (R13, R14). -/
def State.validOk (s : State) : Prop :=
  s.dist.isSome = s.mvalid ∧ s.flux.isSome = s.mvalid ∧ s.temp.isSome = s.mvalid ∧ s.ver.isSome = s.vvalid

/-- `OK = 1` implies `STATUS = Ready` and `REJ = 0` (R204). -/
def State.flagsOk (s : State) : Prop := s.ok = true → s.status = .ready ∧ s.rej = false

/-- The FSM: while it runs its step is one of the 29, the latches of its bus are those of the step before and the other
bus is passive; while it does not, everything it owns is at its reset value (R20, R21, R22, R163). -/
def State.fsmOk (s : State) : Prop :=
  if s.busy then
    s.cfg.hasRecovery = true ∧ 1 ≤ s.rstep.toNat ∧ s.rstep.toNat ≤ 29 ∧
    s.pins s.rbus = latchesAfter (s.rstep.toNat - 1) ∧ s.pins s.rbus.other = PinLatches.idle ∧
    (s.rall = true → s.cfg.nBuses = .two) ∧ (s.rbus = .bus1 → s.cfg.nBuses = .two)
  else
    s.rstep = 0 ∧ s.rbus = .bus0 ∧ s.rall = false ∧ s.pins0 = PinLatches.idle ∧ s.pins1 = PinLatches.idle

/-- The invariant of the machine; the parameters are a table the block may be built with (R67). -/
structure State.Inv (s : State) : Prop where
  cfg   : s.cfg.wellFormed = true
  tx    : s.txOk
  rx    : s.rxOk
  valid : s.validOk
  flags : s.flagsOk
  fsm   : s.fsmOk

/-- A safe state: the block drives no line of a bus unless a recovery runs (R43, R242). -/
def State.safe (s : State) : Prop := s.busy = false → ∀ b l, drivenLevel s b l = none

end Sys2Proof.Machine
end

