-- ==== Sys2Proof/Certificates/Slice0/Obligations.lean ====
section
/-! DEFINITION. The statements for the provers. Each says which rule of spec/ it formalises; `s.busy = false` is the
condition under which an operation is accepted (10_state.md R31). -/

open Sys2Proof Sys2Proof.Machine

/-! ### Encodings and the step -/

/-- Encoding an instruction and decoding it gives it back, every operand at every value (R60, R63, R66, R70 to R74,
R200). -/
def Obligations.DecodeReadsBackEncode : Prop :=
  ∀ i : Instr, i.wellFormed = true → decode (encode i) = .ok i

/-- The decoder answers only instructions that fit their format (R67 (e), R141). -/
def Obligations.DecodedInstructionIsWellFormed : Prop :=
  ∀ (r : Request) (i : Instr), decode r = .ok i → i.wellFormed = true

/-- A presented item that decodes to `i` is run by `exec i`; around it the step takes the item off the inbox and raises
`done` for an operation that was accepted and has completed (R31). -/
def Obligations.StepRunsPresentedInstruction : Prop :=
  ∀ (s : State) (r : Request) (rest : List HostEvent) (i : Instr) (t : State),
    s.inbox = .present r :: rest → decode r = .ok i → exec i { s with inbox := rest } = .next t →
    step s = .next { t with done := !s.busy && !t.busy }

/-- Words written out from the encodings of each format, OP, CW, CF, RF-ECHO, RF-VER, RF-PF, DF9 and ST, decode to their
rows (R60, R63, R66, R71 to R74, R200). The numbering of table words, and the reading of a 4-bit or an ambiguous word, are
log entry 6; an echo and a status code are therefore presented in their own format (log entry 5). -/
def Obligations.TableWordsDecode : Prop :=
  decodeTableWord 8 0 = some .nop ∧ decodeTableWord 8 3 = some (.enc 0 0) ∧
  decodeTableWord 8 8 = some .recoverAll ∧ decodeTableWord 8 15 = some .reserved15 ∧
  decodeTableWord 32 0x00010407 = some .getFirmwareVersion ∧
  decodeTableWord 32 0x5A04105C = some (.hardResetFrame 0x5C) ∧
  decodeTableWord 48 0x5A0603640047 = some (.setFrameRateFrame 0x64 0x00 0x47) ∧
  decodeTableWord 56 0x5A070101020368 = some (.replyVersion 0x00010407 0x5A 0x07 0x01 0x01 0x02 0x03 [] 0x68) ∧
  decodeTableWord 72 0x59596400C8001809FF =
    some (.dataFrame 0x59 0x59 0x64 0x00 0xC8 0x00 0x18 0x09 0xFF) ∧
  decodeTableWord 40 0x5A05020061 = some (.replyPassfail 0x00020405 0x5A 0x05 0x02 0x00 [] 0x61) ∧
  decode ⟨.rfEcho, [0x06, 0x06, 0x03, 0x00, 0x5A, 0x06, 0x03, 0x64, 0x00, 0xC7]⟩ =
    .ok (.replyEcho 0x00030606 [0x5A, 0x06, 0x03, 0x64, 0x00] 0xC7) ∧
  decode ⟨.st, [0x08]⟩ = .ok .stI2cWriteError ∧ decode ⟨.st, [0x0F]⟩ = .ok .stReserved15

/-- The only stop of the machine is an item that decodes to nothing (log entry 5); every instruction gives a next state in
every state, since no failure changes the control flow (R44, R205). That a rejected instruction (R206) and one presented
while BUSY is 1 (R241) give a next state too is the model's choice, log entry 10. -/
def Obligations.OnlyUndecodableItemsStop : Prop :=
  (∀ (i : Instr) (s : State), ∃ t, exec i s = .next t) ∧
  ∀ s : State, (∃ t, step s = .next t) ∨
    ∃ r rest e, (s.inbox = .present r :: rest ∨ ∃ w, s.inbox = .presentDuring w r :: rest) ∧
      decode r = .error e ∧ step s = .refused (.undecodable e)

/-! ### Reset and the invariant -/

/-- R230, R232: whatever the state, a recovery that runs among them, `rst` puts every register at its value, the data
registers and buffers holding none; nothing more is emitted and the pins are passive at once. -/
def Obligations.ResetPutsEveryRegister : Prop :=
  ∀ (s : State) (rest : List HostEvent), s.inbox = .reset :: rest →
    ∃ t, step s = .next t ∧
      t.status = .ready ∧ t.ok = false ∧ t.rej = false ∧
      t.busy = false ∧ t.rstep = 0 ∧ t.rbus = .bus0 ∧ t.rall = false ∧
      (∀ b, (t.pins b).sdaOe = false ∧ (t.pins b).sclOe = false ∧
            (t.pins b).sdaOut = true ∧ (t.pins b).sclOut = true) ∧
      t.acc = 0 ∧ t.txlen = 0 ∧ t.rplen = 0 ∧ t.rxlen = 0 ∧ t.mvalid = false ∧ t.vvalid = false ∧
      t.dist = none ∧ t.flux = none ∧ t.temp = none ∧ t.ver = none ∧
      (∀ a, Memory.read t.txbuf a = none ∧ Memory.read t.rxbuf a = none) ∧
      t.trace = s.trace ∧ (∀ b l, drivenLevel t b l = none)

/-- The state after reset meets the invariant. -/
def Obligations.ResetMeetsInvariant : Prop := State.reset.Inv

/-- Every step keeps the invariant: buffers canonical and inside their cells (R40), validity bits true to the registers
(R13, R14), OK only with Ready (R204), the FSM at one of its 29 steps with the latches of the table (R163), the pins
passive when it does not run (R22). -/
def Obligations.EveryStepKeepsInvariant : Prop :=
  ∀ s t : State, s.Inv → step s = .next t → t.Inv

/-- R43: outside a recovery no line of a bus is driven. -/
def Obligations.PinsPassiveOutsideRecovery : Prop :=
  ∀ s : State, s.Inv → s.safe

/-- R52 (a), R24: no step changes the command table or any other parameter. -/
def Obligations.ParametersNeverChange : Prop :=
  ∀ s t : State, step s = .next t → t.cfg = s.cfg

/-! ### Admission -/

/-- While a recovery runs, a presented operation changes no register and raises no `done` (R241). That the model gives the
request a next state, taken off the inbox with `done` low, where R241 gives it no step, is log entry 10. -/
def Obligations.BusyAcceptsNothing : Prop :=
  ∀ (i : Instr) (s : State), s.busy = true → receivedBytes i = none →
    exec i s = .next s ∧
    ∀ (r : Request) (rest : List HostEvent), s.inbox = .present r :: rest → decode r = .ok i →
      step s = .next { s with inbox := rest, done := false }

/-- Log entry 8: of a received frame presented while a recovery runs, only the host's writes to the receive buffer
happen; its decode is not accepted (R42, R241). -/
def Obligations.ReceivedFrameWhileBusyOnlyLoads : Prop :=
  ∀ (i : Instr) (bs : List Byte) (s : State), s.busy = true → receivedBytes i = some bs →
    exec i s = .next (s.loadRx bs)

/-! ### NOP, STSET, reserved codes -/

/-- R180: operation code 0 is NOP, which changes nothing, in any state. -/
def Obligations.NopKeepsEveryRegister : Prop :=
  (∀ cmd param : Word, decodeOp 0 cmd param = .nop) ∧ ∀ s : State, exec .nop s = .next s

/-- R200, R201: the thirteen codes, and the three that no status has. -/
def Obligations.StatusNumbering : Prop :=
  (Status.ready.code = 0 ∧ Status.serialTimeout.code = 1 ∧ Status.headerNotFound.code = 2 ∧
    Status.checksumMismatch.code = 3 ∧ Status.deviceTimeout.code = 4 ∧ Status.pass.code = 5 ∧
    Status.fail.code = 6 ∧ Status.i2cReadError.code = 7 ∧ Status.i2cWriteError.code = 8 ∧
    Status.i2cLengthError.code = 9 ∧ Status.weakSignal.code = 10 ∧ Status.strongSignal.code = 11 ∧
    Status.ambientFlood.code = 12) ∧
  (∀ st : Status, Status.ofCode st.code = some st) ∧
  ∀ code : Nibble, Status.ofCode code = none ↔ 12 < code.toNat

/-- R181: operation code 6 is STSET of `param[3:0]`, which writes a code up to 12, OK being 1 for Ready only, and rejects
the codes above 12. -/
def Obligations.StsetRecordsOrRejects : Prop :=
  (∀ cmd param : Word, decodeOp 6 cmd param = .stset (BitVec.ofNat 4 (param.toNat % 16))) ∧
  ∀ (code : Nibble) (s : State), s.busy = false →
    (code.toNat ≤ 12 → ∃ st, st.code = code ∧
      exec (.stset code) s = .next { s with status := st, ok := decide (code = 0), rej := false }) ∧
    (12 < code.toNat → exec (.stset code) s = .next { s with rej := true, ok := false })

/-- Log entry 9: a status code of the table is the STSET of it (R181, R200, R201). -/
def Obligations.StatusCodesAreRecorded : Prop :=
  ∀ s : State, s.busy = false →
    exec .stReady s = .next { s with status := .ready, ok := true, rej := false } ∧
    exec .stSerialTimeout s = .next { s with status := .serialTimeout, ok := false, rej := false } ∧
    exec .stHeaderNotFound s = .next { s with status := .headerNotFound, ok := false, rej := false } ∧
    exec .stChecksumMismatch s = .next { s with status := .checksumMismatch, ok := false, rej := false } ∧
    exec .stDeviceTimeout s = .next { s with status := .deviceTimeout, ok := false, rej := false } ∧
    exec .stPass s = .next { s with status := .pass, ok := false, rej := false } ∧
    exec .stFail s = .next { s with status := .fail, ok := false, rej := false } ∧
    exec .stI2cReadError s = .next { s with status := .i2cReadError, ok := false, rej := false } ∧
    exec .stI2cWriteError s = .next { s with status := .i2cWriteError, ok := false, rej := false } ∧
    exec .stI2cLengthError s = .next { s with status := .i2cLengthError, ok := false, rej := false } ∧
    exec .stWeakSignal s = .next { s with status := .weakSignal, ok := false, rej := false } ∧
    exec .stStrongSignal s = .next { s with status := .strongSignal, ok := false, rej := false } ∧
    exec .stAmbientFlood s = .next { s with status := .ambientFlood, ok := false, rej := false } ∧
    exec .stReserved13 s = .next { s with rej := true, ok := false } ∧
    exec .stReserved14 s = .next { s with rej := true, ok := false } ∧
    exec .stReserved15 s = .next { s with rej := true, ok := false }

/-- R62: codes 9 to 15, and 7 and 8 without the FSM, are rejected and change nothing but REJ and OK. -/
def Obligations.ReservedCodesAreRejected : Prop :=
  ∀ s : State, s.busy = false →
    (∀ (op : Nibble) (cmd param : Word), 9 ≤ op.toNat →
      exec (decodeOp op cmd param) s = .next { s with rej := true, ok := false }) ∧
    (∀ i ∈ [Instr.reserved9, .reserved10, .reserved11, .reserved12, .reserved13, .reserved14, .reserved15],
      exec i s = .next { s with rej := true, ok := false }) ∧
    (s.cfg.hasRecovery = false → ∀ (op : Nibble) (cmd param : Word), op = 7 ∨ op = 8 →
      exec (decodeOp op cmd param) s = .next { s with rej := true, ok := false })

/-! ### The checksum unit -/

/-- R91, R92: operation codes 1 and 2 clear the accumulator and add `param[7:0]` to it, the carry lost. -/
def Obligations.ChecksumOperations : Prop :=
  (∀ cmd param : Word, decodeOp 1 cmd param = .csumClr ∧
    decodeOp 2 cmd param = .csumAdd (BitVec.ofNat 8 (param.toNat % 256))) ∧
  ∀ s : State, s.busy = false →
    exec .csumClr s = .next { s with acc := 0 } ∧
    ∀ b : Byte, exec (.csumAdd b) s =
      .next { s with acc := BitVec.ofNat 8 ((s.acc.toNat + b.toNat) % 256) }

/-- R93: CSUM_CLR and then a CSUM_ADD of each byte of a list leaves the checksum of the list. -/
def Obligations.ChecksumOfSequence : Prop :=
  ∀ (l : List Byte) (s : State), s.busy = false →
    execAll (.csumClr :: l.map Instr.csumAdd) s = .next { s with acc := csum8 l }

/-- R90: the checksum is the sum of the bytes modulo 256, and reducing after every byte gives the same. -/
def Obligations.ChecksumIsSumModulo256 : Prop :=
  csum8 [] = 0 ∧ (∀ (l : List Byte) (b : Byte), csum8 (l ++ [b]) = csum8 l + b) ∧
  ∀ l : List Byte, (csum8 l).toNat = (l.map BitVec.toNat).sum % 256

/-- R94 (a) to (f). -/
def Obligations.ChecksumLaws : Prop :=
  (∀ l m : List Byte, l.Perm m → csum8 l = csum8 m) ∧
  (∀ l m : List Byte, csum8 (l ++ m) = csum8 l + csum8 m) ∧
  (∀ l : List Byte, csum8 (l ++ [0]) = csum8 l) ∧
  (∀ (l : List Byte) (k : Nat) (h : k < l.length) (b : Byte),
    csum8 (l.set k b) = csum8 l + (b - l[k]) ∧ (b ≠ l[k] → csum8 (l.set k b) ≠ csum8 l)) ∧
  (∀ (l : List Byte) (j k : Nat) (hj : j < l.length) (hk : k < l.length) (d : Byte), j ≠ k →
    csum8 ((l.set j (l[j] + d)).set k (l[k] - d)) = csum8 l) ∧
  ∀ n : Nat, passesChecksum (List.replicate (n + 1) 0)

/-! ### The encoder -/

/-- R102: a word of no row builds no frame, and ENC is rejected with STATUS Ready and ACC unchanged. -/
def Obligations.EncRejectsUnknownWord : Prop :=
  ∀ (cmd param : Word) (s : State), s.busy = false → (∀ row ∈ s.cfg.cmdTable, row.word ≠ cmd) →
    exec (.enc cmd param) s =
      .next { s with
        status := .ready, ok := false, rej := true,
        txbuf := Memory.ofBytes 0 (List.replicate 8 0), txlen := 0, rplen := 0 }

/-- R100: for a row of a well-formed table ENC leaves the frame of R66 in TXBUF, zeros after it, its length, the reply
length and the checksum. -/
def Obligations.EncBuildsFrame : Prop :=
  ∀ (row : CmdRow) (param : Word) (s : State),
    s.cfg.wellFormed = true → row ∈ s.cfg.cmdTable → s.busy = false →
    exec (.enc row.word param) s = .next (s.encoded (commandBody row param) (byteK 0 row.word))

/-- R104: the frame the host reads after ENC has the header, its own length, the opcode, a checksum that passes, and
its parameter back. -/
def Obligations.EncodedFrameRoundTrip : Prop :=
  ∀ (row : CmdRow) (param : Word) (s t : State),
    s.cfg.wellFormed = true → row ∈ s.cfg.cmdTable → s.busy = false → exec (.enc row.word param) s = .next t →
    (txFrame t).length = row.len ∧ (txFrame t)[0]? = some 0x5A ∧
    (txFrame t)[1]? = some (BitVec.ofNat 8 (txFrame t).length) ∧ (txFrame t)[2]? = some row.opc ∧
    passesChecksum (txFrame t) ∧
    (row.psrc = .ext → littleEndian (((txFrame t).drop 3).take row.pw) = param.toNat % 2 ^ (8 * row.pw))

/-- R103: ENC completes for every parameter value, and the bytes of `param` above the row's width change nothing. -/
def Obligations.EncIgnoresHighParameterBytes : Prop :=
  ∀ (row : CmdRow) (p q : Word) (s : State),
    s.cfg.wellFormed = true → row ∈ s.cfg.cmdTable → s.busy = false →
    (∃ t, exec (.enc row.word p) s = .next t ∧ t.ok = true) ∧
    (p.toNat % 2 ^ (8 * row.pw) = q.toNat % 2 ^ (8 * row.pw) → exec (.enc row.word p) s = exec (.enc row.word q) s)

/-- R41: after any ENC, successful or rejected, the cells from TXLEN to 7 read as 0. -/
def Obligations.CellsBeyondFrameReadZero : Prop :=
  ∀ (cmd param : Word) (s t : State),
    s.cfg.wellFormed = true → s.busy = false → exec (.enc cmd param) s = .next t →
    ∀ a : BitVec 3, t.txlen.toNat ≤ a.toNat → txRdata t a = 0

/-- R110 to R113, R117: the five commands of the default table whose frame is a constant, `param` being ignored. -/
def Obligations.ConstantCommandFrames : Prop :=
  (∀ param : Word,
    decodeCw 0x00010407 param = .getFirmwareVersion ∧ decodeCw 0x00020405 param = .softReset ∧
    decodeCw 0x00100405 param = .hardReset ∧ decodeCw 0x00110405 param = .saveSettings ∧
    decodeCw 0x01000500 param = .i2cFormatCm) ∧
  ∀ s : State, s.cfg.cmdTable = Config.defaultTable → s.busy = false →
    exec .getFirmwareVersion s = .next (s.holdsFrame [0x5A, 0x04, 0x01, 0x5F, 0, 0, 0, 0] 4 0x5F 7) ∧
    exec .softReset s = .next (s.holdsFrame [0x5A, 0x04, 0x02, 0x60, 0, 0, 0, 0] 4 0x60 5) ∧
    exec .hardReset s = .next (s.holdsFrame [0x5A, 0x04, 0x10, 0x6E, 0, 0, 0, 0] 4 0x6E 5) ∧
    exec .saveSettings s = .next (s.holdsFrame [0x5A, 0x04, 0x11, 0x6F, 0, 0, 0, 0] 4 0x6F 5) ∧
    exec .i2cFormatCm s = .next (s.holdsFrame [0x5A, 0x05, 0x00, 0x01, 0x60, 0, 0, 0] 5 0x60 0)

/-- R114 to R116: the three commands of the default table with a parameter, whose bytes above its width are ignored. -/
def Obligations.ParameterCommandFrames : Prop :=
  (∀ b0 b1 b2 b3 : Byte,
    decodeCw 0x00030606 (word32 b0 b1 b2 b3) = .setFrameRate (le16 b0 b1) ∧
    decodeCw 0x00060808 (word32 b0 b1 b2 b3) = .setBaudRate (word32 b0 b1 b2 b3) ∧
    decodeCw 0x100B0505 (word32 b0 b1 b2 b3) = .setI2cAddress b0) ∧
  ∀ s : State, s.cfg.cmdTable = Config.defaultTable → s.busy = false →
    (∀ (lo hi : Byte), exec (.setFrameRate (le16 lo hi)) s =
      .next (s.holdsFrame [0x5A, 0x06, 0x03, lo, hi, 0x63 + lo + hi, 0, 0] 6 (0x63 + lo + hi) 6)) ∧
    (∀ (b0 b1 b2 b3 : Byte), exec (.setBaudRate (word32 b0 b1 b2 b3)) s =
      .next (s.holdsFrame [0x5A, 0x08, 0x06, b0, b1, b2, b3, 0x68 + b0 + b1 + b2 + b3] 8
        (0x68 + b0 + b1 + b2 + b3) 8)) ∧
    (∀ addr : Byte, exec (.setI2cAddress addr) s =
      .next (s.holdsFrame [0x5A, 0x05, 0x0B, addr, 0x6A + addr, 0, 0, 0] 5 (0x6A + addr) 5))

/-- Log entry 7: a command-frame row is the ENC that builds that frame, with the checksum the block computes (R66,
R110 to R117). -/
def Obligations.CommandFrameRowsBuildTheirFrame : Prop :=
  ∀ (s : State) (c : Byte), s.cfg.cmdTable = Config.defaultTable → s.busy = false →
    exec (.getFirmwareVersionFrame c) s = .next (s.holdsFrame [0x5A, 0x04, 0x01, 0x5F, 0, 0, 0, 0] 4 0x5F 7) ∧
    exec (.softResetFrame c) s = .next (s.holdsFrame [0x5A, 0x04, 0x02, 0x60, 0, 0, 0, 0] 4 0x60 5) ∧
    exec (.hardResetFrame c) s = .next (s.holdsFrame [0x5A, 0x04, 0x10, 0x6E, 0, 0, 0, 0] 4 0x6E 5) ∧
    exec (.saveSettingsFrame c) s = .next (s.holdsFrame [0x5A, 0x04, 0x11, 0x6F, 0, 0, 0, 0] 4 0x6F 5) ∧
    exec (.i2cFormatCmFrame c) s = .next (s.holdsFrame [0x5A, 0x05, 0x00, 0x01, 0x60, 0, 0, 0] 5 0x60 0) ∧
    (∀ p0 p1 : Byte, exec (.setFrameRateFrame p0 p1 c) s =
      .next (s.holdsFrame [0x5A, 0x06, 0x03, p0, p1, 0x63 + p0 + p1, 0, 0] 6 (0x63 + p0 + p1) 6)) ∧
    (∀ p0 p1 p2 p3 : Byte, exec (.setBaudRateFrame p0 p1 p2 p3 c) s =
      .next (s.holdsFrame [0x5A, 0x08, 0x06, p0, p1, p2, p3, 0x68 + p0 + p1 + p2 + p3] 8
        (0x68 + p0 + p1 + p2 + p3) 8)) ∧
    (∀ p0 : Byte, exec (.setI2cAddressFrame p0 c) s =
      .next (s.holdsFrame [0x5A, 0x05, 0x0B, p0, 0x6A + p0, 0, 0, 0] 5 (0x6A + p0) 5))

/-! ### The receive buffer and DECD -/

/-- R42: the host's write ports; a byte at an address up to 8 goes to its cell alone, one above 8 nowhere, and
RXLEN takes any value. -/
def Obligations.HostWritesReceiveBuffer : Prop :=
  ∀ (s : State) (rest : List HostEvent) (addr : Nibble) (data : Byte) (n : Nibble),
    (s.inbox = .write (.cell addr data) :: rest → addr.toNat ≤ 8 →
      ∃ t, step s = .next t ∧ Memory.read t.rxbuf addr.toNat = some data ∧
        (∀ a, a ≠ addr.toNat → Memory.read t.rxbuf a = Memory.read s.rxbuf a) ∧
        t = { s with rxbuf := t.rxbuf, inbox := rest, done := false }) ∧
    (s.inbox = .write (.cell addr data) :: rest → 8 < addr.toNat →
      step s = .next { s with inbox := rest, done := false }) ∧
    (s.inbox = .write (.length n) :: rest → step s = .next { s with rxlen := n, inbox := rest, done := false })

/-- R187: loading received bytes places the k-th byte at offset k, sets RXLEN to their number, and changes nothing
else. -/
def Obligations.LoadPlacesReceivedBytes : Prop :=
  ∀ (bs : List Byte) (s : State), bs.length ≤ 9 →
    (s.loadRx bs).rxlen.toNat = bs.length ∧
    (∀ k, k < bs.length → Memory.read (s.loadRx bs).rxbuf k = bs[k]?) ∧
    (∀ k, bs.length ≤ k → Memory.read (s.loadRx bs).rxbuf k = Memory.read s.rxbuf k) ∧
    s.loadRx bs = { s with rxbuf := (s.loadRx bs).rxbuf, rxlen := (s.loadRx bs).rxlen }

/-- R243: a write that coincides with an operation is seen old or new by it, and lands. Which one is a free value; the
statement holds for both (log entry 14). What stands for `seen` is what the instruction starts from: a received-frame row
then loads its own bytes and length over it, so that its decode never sees the write, which is the model's choice (log
entries 8 and 14). -/
def Obligations.CoincidingWriteIsSeenOldOrNew : Prop :=
  ∀ (s : State) (w : HostWrite) (r : Request) (rest : List HostEvent) (i : Instr),
    s.inbox = .presentDuring w r :: rest → decode r = .ok i →
    ∃ seen t : State,
      (seen = { s with inbox := rest, draws := s.draws + 1 } ∨
        seen = { s with inbox := rest, draws := s.draws + 1 }.hostWrite w) ∧
      exec i seen = .next t ∧ step s = .next ({ t with done := !s.busy && !t.busy }.hostWrite w)

/-- R131, R132: a length other than 9 fails with I2C-read-error, the checksum not computed; a sum that differs from the
ninth byte fails with Checksum-mismatch, ACC the sum; the fields are UNDEF in both. -/
def Obligations.DecdFailures : Prop :=
  ∀ s : State, s.busy = false →
    (s.rxlen ≠ 9 →
      exec .decd s =
        .next { s with
          status := .i2cReadError, ok := false, rej := false,
          dist := none, flux := none, temp := none, mvalid := false }) ∧
    (s.rxlen = 9 → csum8 (rxRange s 8) ≠ rxRead s 8 →
      exec .decd s =
        .next { s with
          status := .checksumMismatch, ok := false, rej := false, acc := csum8 (rxRange s 8),
          dist := none, flux := none, temp := none, mvalid := false })

/-- R130, R133 to R135, R137: a frame that passes writes its signed fields and the converted temperature, and the first
abnormal value that matches decides the status. -/
def Obligations.DecdMeasurement : Prop :=
  ∀ s : State, s.busy = false → s.rxlen = 9 → csum8 (rxRange s 8) = rxRead s 8 →
    exec .decd s =
      .next { s with
        acc := csum8 (rxRange s 8), rej := false, mvalid := true,
        dist := some (le16 (rxRead s 2) (rxRead s 3)),
        flux := some (le16 (rxRead s 4) (rxRead s 5)),
        temp := some (BitVec.ofInt 16 ((le16 (rxRead s 6) (rxRead s 7)).toInt / 8 - 256)),
        status := measurementStatus (le16 (rxRead s 2) (rxRead s 3)).toInt (le16 (rxRead s 4) (rxRead s 5)).toInt,
        ok := decide (measurementStatus (le16 (rxRead s 2) (rxRead s 3)).toInt
          (le16 (rxRead s 4) (rxRead s 5)).toInt = .ready) }

/-- R134: the conversion is floor division by 8, then minus 256, and never leaves -4352 to 3839. -/
def Obligations.TemperatureConversion : Prop :=
  ∀ traw : Half, (convertTemp traw).toInt = traw.toInt / 8 - 256 ∧
    -4352 ≤ (convertTemp traw).toInt ∧ (convertTemp traw).toInt ≤ 3839

/-- R135, R136: distance -1, then flux -1, then distance -4; the first that holds decides. -/
def Obligations.ClassificationPriority : Prop :=
  ∀ d f : Half,
    (d.toInt = -1 → classify d f = some .weakSignal) ∧
    (d.toInt ≠ -1 → f.toInt = -1 → classify d f = some .strongSignal) ∧
    (d.toInt = -4 → f.toInt ≠ -1 → classify d f = some .ambientFlood) ∧
    (d.toInt ≠ -1 → d.toInt ≠ -4 → f.toInt ≠ -1 → classify d f = none)

/-- Log entry 8: a data frame is the host's load of its nine bytes and then DECD; with the right checksum it is decoded
field by field, with a wrong one it fails (R74, R75, R130). -/
def Obligations.DataFrameIsLoadedAndDecoded : Prop :=
  ∀ (h0 h1 dl dh fl fh tl th c : Byte) (s : State), s.busy = false →
    let frame := [h0, h1, dl, dh, fl, fh, tl, th]
    (c = csum8 frame →
      exec (.dataFrame h0 h1 dl dh fl fh tl th c) s =
        .next { s.loadRx (frame ++ [c]) with
          acc := c, rej := false, mvalid := true,
          dist := some (le16 dl dh), flux := some (le16 fl fh),
          temp := some (BitVec.ofInt 16 ((le16 tl th).toInt / 8 - 256)),
          status := measurementStatus (le16 dl dh).toInt (le16 fl fh).toInt,
          ok := decide (measurementStatus (le16 dl dh).toInt (le16 fl fh).toInt = .ready) }) ∧
    (c ≠ csum8 frame →
      exec (.dataFrame h0 h1 dl dh fl fh tl th c) s =
        .next { s.loadRx (frame ++ [c]) with
          acc := csum8 frame, rej := false, mvalid := false, dist := none, flux := none, temp := none,
          status := .checksumMismatch, ok := false })

/-! ### DECR and the replies -/

/-- R140, R78: DECR of a word of no row is rejected, STATUS Ready, ACC and VER unchanged. -/
def Obligations.DecrRejectsUnknownWord : Prop :=
  ∀ (cmd : Word) (s : State), s.busy = false → (∀ row ∈ s.cfg.cmdTable, row.word ≠ cmd) →
    exec (.decr cmd) s = .next { s with status := .ready, ok := false, rej := true }

/-- R145: DECR of a command without a reply succeeds at once, whatever RXLEN and RXBUF hold. -/
def Obligations.DecrWithoutReply : Prop :=
  ∀ (row : CmdRow) (s : State),
    s.cfg.wellFormed = true → row ∈ s.cfg.cmdTable → row.kind = .none → s.busy = false →
    exec (.decr row.word) s = .next { s with status := .ready, ok := true, rej := false }

/-- R141: a length other than the command's reply length fails with I2C-read-error before anything is read; the offsets
a decode reads lie inside the buffer and before the checksum. -/
def Obligations.DecrWrongLength : Prop :=
  ∀ (row : CmdRow) (s : State),
    s.cfg.wellFormed = true → row ∈ s.cfg.cmdTable → row.kind ≠ .none → s.busy = false →
    (s.rxlen.toNat ≠ row.rpl →
      exec (.decr row.word) s = .next { s with status := .i2cReadError, ok := false, rej := false }) ∧
    2 ≤ row.rpl ∧ row.rpl ≤ 9 ∧ (row.kind = .version → 7 ≤ row.rpl) ∧ (row.kind = .passFail → 5 ≤ row.rpl)

/-- R142: a wrong checksum is fatal before the payload is looked at, whatever the kind. -/
def Obligations.DecrWrongChecksum : Prop :=
  ∀ (row : CmdRow) (s : State),
    s.cfg.wellFormed = true → row ∈ s.cfg.cmdTable → row.kind ≠ .none → s.busy = false →
    s.rxlen.toNat = row.rpl → csum8 (rxRange s (row.rpl - 1)) ≠ rxRead s (row.rpl - 1) →
    exec (.decr row.word) s =
      .next { s with
        status := .checksumMismatch, ok := false, rej := false, acc := csum8 (rxRange s (row.rpl - 1)) }

/-- R143, R144, R146: what DECR does with a reply that passes, by its kind. -/
def Obligations.DecrDecodesReply : Prop :=
  ∀ (row : CmdRow) (s : State),
    s.cfg.wellFormed = true → row ∈ s.cfg.cmdTable → row.kind ≠ .none → s.busy = false →
    s.rxlen.toNat = row.rpl → csum8 (rxRange s (row.rpl - 1)) = rxRead s (row.rpl - 1) →
    (row.kind = .version →
      exec (.decr row.word) s =
        .next { s with
          status := .ready, ok := true, rej := false, acc := csum8 (rxRange s (row.rpl - 1)),
          ver := some ⟨rxRead s 5, rxRead s 4, rxRead s 3⟩, vvalid := true }) ∧
    (row.kind = .passFail →
      exec (.decr row.word) s =
        .next { s with
          status := if rxRead s 3 = 0 then .ready else .fail, ok := decide (rxRead s 3 = 0), rej := false,
          acc := csum8 (rxRange s (row.rpl - 1)) }) ∧
    (row.kind = .echo →
      exec (.decr row.word) s =
        .next { s with status := .ready, ok := true, rej := false, acc := csum8 (rxRange s (row.rpl - 1)) })

/-- Log entry 8: a version reply is the host's load of its bytes and then DECR; the triple is in reverse byte order
(R48, R72, R143), and a wrong checksum, a wrong length, an unknown command and a command of another kind end as R140
says. -/
def Obligations.VersionReplyIsDecoded : Prop :=
  (∀ (row : CmdRow) (x0 x1 x2 patch minor major : Byte) (extra : List Byte) (s : State),
    s.cfg.wellFormed = true → row ∈ s.cfg.cmdTable → row.kind = .version → s.busy = false →
    extra.length + 7 = row.rpl →
    let body := [x0, x1, x2, patch, minor, major] ++ extra
    exec (.replyVersion row.word x0 x1 x2 patch minor major extra (csum8 body)) s =
      .next { s.loadRx (body ++ [csum8 body]) with
        status := .ready, ok := true, rej := false, acc := csum8 body,
        ver := some ⟨major, minor, patch⟩, vvalid := true }) ∧
  ∀ (cmd : Word) (x0 x1 x2 patch minor major : Byte) (extra : List Byte) (c : Byte),
    (Instr.replyVersion cmd x0 x1 x2 patch minor major extra c).wellFormed = true →
    ReplyRowOutcomes (.replyVersion cmd x0 x1 x2 patch minor major extra c) cmd
      ([x0, x1, x2, patch, minor, major] ++ extra) c

/-- Log entry 8: a pass/fail reply is the host's load of its bytes and then DECR; any non-zero flag is the device's
failure (R73, R144), and a wrong checksum, a wrong length, an unknown command and a command of another kind end as R140
says. -/
def Obligations.PassFailReplyIsDecoded : Prop :=
  (∀ (row : CmdRow) (x0 x1 x2 flag : Byte) (extra : List Byte) (s : State),
    s.cfg.wellFormed = true → row ∈ s.cfg.cmdTable → row.kind = .passFail → s.busy = false →
    extra.length + 5 = row.rpl →
    let body := [x0, x1, x2, flag] ++ extra
    exec (.replyPassfail row.word x0 x1 x2 flag extra (csum8 body)) s =
      .next { s.loadRx (body ++ [csum8 body]) with
        status := if flag = 0 then .ready else .fail, ok := decide (flag = 0), rej := false, acc := csum8 body }) ∧
  ∀ (cmd : Word) (x0 x1 x2 flag : Byte) (extra : List Byte) (c : Byte),
    (Instr.replyPassfail cmd x0 x1 x2 flag extra c).wellFormed = true →
    ReplyRowOutcomes (.replyPassfail cmd x0 x1 x2 flag extra c) cmd ([x0, x1, x2, flag] ++ extra) c

/-- Log entry 8: an echo is the host's load of its bytes and then DECR, which looks at the length and the checksum only
(R71, R146), and a wrong checksum, a wrong length, an unknown command and a command of another kind end as R140 says. -/
def Obligations.EchoReplyIsDecoded : Prop :=
  (∀ (row : CmdRow) (body : List Byte) (s : State),
    s.cfg.wellFormed = true → row ∈ s.cfg.cmdTable → row.kind = .echo → s.busy = false →
    body.length + 1 = row.rpl →
    exec (.replyEcho row.word body (csum8 body)) s =
      .next { s.loadRx (body ++ [csum8 body]) with
        status := .ready, ok := true, rej := false, acc := csum8 body }) ∧
  ∀ (cmd : Word) (body : List Byte) (c : Byte), (Instr.replyEcho cmd body c).wellFormed = true →
    ReplyRowOutcomes (.replyEcho cmd body c) cmd body c

/-- R143: the version registers are written, in reverse byte order, by a decode that answers a Version command and
succeeds, and change in no other case, a failed version read among them. -/
def Obligations.VersionRetained : Prop :=
  (∀ (i : Instr) (s t : State), exec i s = .next t →
    (t.ver = s.ver ∧ t.vvalid = s.vvalid) ∨
    (∃ cmd row, answersCommand i = some cmd ∧ row ∈ s.cfg.cmdTable ∧ row.word = cmd ∧ row.kind = .version ∧
      t.vvalid = true ∧ t.ver = some ⟨rxRead t 5, rxRead t 4, rxRead t 3⟩ ∧ t.status = .ready ∧ t.ok = true ∧
      t.rxlen.toNat = row.rpl ∧ csum8 (rxRange t (row.rpl - 1)) = rxRead t (row.rpl - 1))) ∧
  ∀ (row : CmdRow) (s : State),
    s.cfg.wellFormed = true → row ∈ s.cfg.cmdTable → row.kind = .version → s.busy = false →
    s.rxlen.toNat = row.rpl → csum8 (rxRange s (row.rpl - 1)) = rxRead s (row.rpl - 1) →
    ∃ t, exec (.decr row.word) s = .next t ∧ t.vvalid = true ∧
      t.ver = some ⟨rxRead s 5, rxRead s 4, rxRead s 3⟩

/-! ### The recovery -/

/-- R160: operation code 7 is RECOVER of bus `param[0]`, which starts the FSM on a bus that exists, and is rejected for
one that does not and, as a reserved code, without the FSM. -/
def Obligations.RecoverStartsOrRejects : Prop :=
  (∀ cmd param : Word, decodeOp 7 cmd param = .recover (BitVec.ofNat 1 (param.toNat % 2))) ∧
  ∀ (bus : BitVec 1) (s : State), s.busy = false →
    (s.cfg.hasRecovery = true → (bus = 0 ∨ s.cfg.nBuses = .two) →
      exec (.recover bus) s =
        .next { s with
          status := .ready, ok := true, rej := false, rbus := if bus = 0 then .bus0 else .bus1, rall := false,
          rstep := 1, busy := true }) ∧
    (bus = 1 → s.cfg.nBuses = .one → exec (.recover bus) s = .next { s with rej := true, ok := false }) ∧
    (s.cfg.hasRecovery = false → exec (.recover bus) s = .next { s with rej := true, ok := false })

/-- R169 with the table of R163: a step of the FSM emits the event of its number on its bus, leaves the latches of that
row, and goes to the next step, to the second bus, or to the end, where `done` is raised. -/
def Obligations.FsmStepFollowsTable : Prop :=
  ∀ s : State, s.Inv → s.busy = true → (s.inbox = [] ∨ ∃ rest, s.inbox = .idle :: rest) →
    ∃ t e, step s = .next t ∧ (recoveryTrace s.rbus)[s.rstep.toNat - 1]? = some e ∧ t.trace = s.trace ++ [e] ∧
      t.pins s.rbus = latchesAfter s.rstep.toNat ∧ t.pins s.rbus.other = s.pins s.rbus.other ∧
      (s.rstep.toNat < 29 →
        t.rstep.toNat = s.rstep.toNat + 1 ∧ t.rbus = s.rbus ∧ t.rall = s.rall ∧ t.busy = true ∧ t.done = false) ∧
      (s.rstep.toNat = 29 → s.rall = true → s.rbus = .bus0 →
        t.rstep = 1 ∧ t.rbus = .bus1 ∧ t.rall = true ∧ t.busy = true ∧ t.done = false) ∧
      (s.rstep.toNat = 29 → (s.rall = false ∨ s.rbus = .bus1) →
        t.rstep = 0 ∧ t.rbus = .bus0 ∧ t.rall = false ∧ t.busy = false ∧ t.done = true) ∧
      t.status = s.status ∧ t.ok = s.ok ∧ t.rej = s.rej

/-- R163, R164, R170, the outside world being silent (log entry 11): from an accepted RECOVER, 29 steps emit the whole trace and end with the FSM idle and every latch
at its reset value; before that BUSY stays 1. -/
def Obligations.RecoverRunsToItsEnd : Prop :=
  ∀ (bus : BitVec 1) (s : State), s.Inv → s.busy = false → s.inbox = [] → s.cfg.hasRecovery = true →
    (bus = 0 ∨ s.cfg.nBuses = .two) →
    ∃ t, exec (.recover bus) s = .next t ∧
      Host.Core.run Sys2Proof.core 29 t =
        .next ({ s with status := .ready, ok := true, rej := false }.recovered
          (s.trace ++ recoveryTrace (if bus = 0 then .bus0 else .bus1))) ∧
      ∀ k, k < 29 → ∃ u : State, Host.Core.run Sys2Proof.core k t = .next u ∧ u.busy = true

/-- R166: operation code 8 is RECOVER_ALL; accepted, it starts the FSM on bus 0; 29 steps recover the one bus, 58 steps
both, the primary first, the outside world being silent (log entry 11); without the FSM it is a reserved code. -/
def Obligations.RecoverAllRunsToItsEnd : Prop :=
  (∀ cmd param : Word, decodeOp 8 cmd param = .recoverAll) ∧
  (∀ s : State, s.busy = false → s.cfg.hasRecovery = false →
    exec .recoverAll s = .next { s with rej := true, ok := false }) ∧
  ∀ s : State, s.Inv → s.busy = false → s.inbox = [] → s.cfg.hasRecovery = true →
    ∃ t, exec .recoverAll s = .next t ∧
      t = { s with
        status := .ready, ok := true, rej := false, rbus := .bus0, rall := decide (s.cfg.nBuses = .two),
        rstep := 1, busy := true } ∧
      (s.cfg.nBuses = .one →
        Host.Core.run Sys2Proof.core 29 t =
          .next ({ s with status := .ready, ok := true, rej := false }.recovered (s.trace ++ recoveryTrace .bus0))) ∧
      (s.cfg.nBuses = .two →
        Host.Core.run Sys2Proof.core 58 t =
          .next ({ s with status := .ready, ok := true, rej := false }.recovered
            (s.trace ++ (recoveryTrace .bus0 ++ recoveryTrace .bus1))))

/-- R164: the counts of one recovery's events. -/
def Obligations.RecoveryCounts : Prop :=
  ∀ b : Bus, (recoveryTrace b).length = 29 ∧
    (∀ n, n < 29 → recoveryStep b (n + 1) = (recoveryTrace b)[n]?) ∧
    ((recoveryTrace b).filter (fun e => e.event == .modeOut b .sda || e.event == .modeOut b .scl)).length = 2 ∧
    ((recoveryTrace b).filter (fun e => e.event == .modeIn b .sda || e.event == .modeIn b .scl)).length = 2 ∧
    (recoveryTrace b).filterMap (fun e => match e.event with | .write _ .sda v => some v | _ => none) =
      [true, false, true] ∧
    (recoveryTrace b).filterMap (fun e => match e.event with | .write _ .scl v => some v | _ => none) =
      (List.replicate 10 [true, false]).flatten ++ [true] ∧
    ((recoveryTrace b).filter (fun e => e.event == .reinit b)).length = 1 ∧
    latchesAfter 29 = PinLatches.idle

/-! ### Frames and final statuses -/

/-- R26: NOP, STSET, the status codes and the reserved codes write STATUS, OK and REJ and nothing else; the checksum
operations write ACC and nothing else. -/
def Obligations.StatusAndChecksumFrames : Prop :=
  ∀ (i : Instr) (s t : State), exec i s = .next t →
    ((i = .nop ∨ (∃ code, i = .stset code) ∨
      i ∈ [Instr.reserved9, .reserved10, .reserved11, .reserved12, .reserved13, .reserved14, .reserved15,
        .stReady, .stSerialTimeout, .stHeaderNotFound, .stChecksumMismatch, .stDeviceTimeout, .stPass, .stFail,
        .stI2cReadError, .stI2cWriteError, .stI2cLengthError, .stWeakSignal, .stStrongSignal, .stAmbientFlood,
        .stReserved13, .stReserved14, .stReserved15]) →
      t = { s with status := t.status, ok := t.ok, rej := t.rej }) ∧
    ((i = .csumClr ∨ ∃ b, i = .csumAdd b) → t = { s with acc := t.acc })

/-- R26: ENC, the command words and the command frames write STATUS, OK, REJ, TXBUF[0..7], TXLEN, RPLEN and ACC and
nothing else; no offset above 7 of the transmit buffer changes. -/
def Obligations.EncodeOperationsFrame : Prop :=
  ∀ (i : Instr) (s t : State), s.Inv →
    ((∃ cmd param, i = .enc cmd param) ∨
      i ∈ [Instr.getFirmwareVersion, .softReset, .hardReset, .saveSettings, .i2cFormatCm] ∨
      (∃ rate, i = .setFrameRate rate) ∨ (∃ baud, i = .setBaudRate baud) ∨ (∃ addr, i = .setI2cAddress addr) ∨
      (∃ c, i ∈ [Instr.getFirmwareVersionFrame c, .softResetFrame c, .hardResetFrame c, .saveSettingsFrame c,
        .i2cFormatCmFrame c]) ∨
      (∃ p0 p1 c, i = .setFrameRateFrame p0 p1 c) ∨ (∃ p0 p1 p2 p3 c, i = .setBaudRateFrame p0 p1 p2 p3 c) ∨
      (∃ p0 c, i = .setI2cAddressFrame p0 c)) →
    exec i s = .next t →
    t = { s with
      status := t.status, ok := t.ok, rej := t.rej, txbuf := t.txbuf, txlen := t.txlen, rplen := t.rplen,
      acc := t.acc } ∧
    ∀ a, 7 < a → Memory.read t.txbuf a = Memory.read s.txbuf a

/-- R26: DECD writes STATUS, OK, REJ, ACC and the measurement registers, DECR the first four and the version registers,
and nothing else; neither writes a byte of a buffer. -/
def Obligations.DecodeOperationsFrame : Prop :=
  ∀ s t : State,
    (exec .decd s = .next t →
      t = { s with
        status := t.status, ok := t.ok, rej := t.rej, acc := t.acc, dist := t.dist, flux := t.flux,
        temp := t.temp, mvalid := t.mvalid }) ∧
    ∀ cmd : Word, exec (.decr cmd) s = .next t →
      t = { s with
        status := t.status, ok := t.ok, rej := t.rej, acc := t.acc, ver := t.ver, vvalid := t.vvalid }

/-- Log entry 8: a received frame changes what its decode writes, RXLEN, and the receive cells its bytes go to; every
other cell keeps its byte (R26, R42). -/
def Obligations.ReceivedFramesFrame : Prop :=
  ∀ (i : Instr) (bs : List Byte) (s t : State), i.wellFormed = true → receivedBytes i = some bs →
    exec i s = .next t →
    (∀ a, bs.length ≤ a → Memory.read t.rxbuf a = Memory.read s.rxbuf a) ∧
    (∀ cmd, answersCommand i = some cmd →
      t = { s with
        status := t.status, ok := t.ok, rej := t.rej, acc := t.acc, ver := t.ver, vvalid := t.vvalid,
        rxbuf := t.rxbuf, rxlen := t.rxlen }) ∧
    (answersCommand i = none →
      t = { s with
        status := t.status, ok := t.ok, rej := t.rej, acc := t.acc, dist := t.dist, flux := t.flux,
        temp := t.temp, mvalid := t.mvalid, rxbuf := t.rxbuf, rxlen := t.rxlen })

/-- R26, R170: RECOVER and RECOVER_ALL write STATUS, OK, REJ, BUSY, RSTEP, RBUS and RALL at acceptance and nothing else;
a step of the FSM touches the FSM's registers, the pin latches and the trace, and no register or buffer of the codec. -/
def Obligations.RecoveryFrames : Prop :=
  (∀ (i : Instr) (s t : State), ((∃ bus, i = .recover bus) ∨ i = .recoverAll) → exec i s = .next t →
    t = { s with
      status := t.status, ok := t.ok, rej := t.rej, busy := t.busy, rstep := t.rstep, rbus := t.rbus,
      rall := t.rall }) ∧
  ∀ (s t : State) (rest : List HostEvent), s.busy = true → (s.inbox = [] ∧ rest = [] ∨ s.inbox = .idle :: rest) →
    step s = .next t →
    t = { s with
      rstep := t.rstep, rbus := t.rbus, rall := t.rall, busy := t.busy, done := t.done, pins0 := t.pins0,
      pins1 := t.pins1, trace := t.trace, inbox := rest }

/-- R202: the statuses, OK and REJ each operation can end with. -/
def Obligations.FinalStatuses : Prop :=
  ∀ s t : State, s.busy = false →
    (∀ cmd param, exec (.enc cmd param) s = .next t → t.status = .ready ∧ t.ok = !t.rej) ∧
    (exec .decd s = .next t →
      t.status ∈ [Status.ready, .checksumMismatch, .i2cReadError, .weakSignal, .strongSignal, .ambientFlood] ∧
      (t.ok = true ↔ t.status = .ready) ∧ t.rej = false) ∧
    (∀ cmd, exec (.decr cmd) s = .next t →
      t.status ∈ [Status.ready, .checksumMismatch, .i2cReadError, .fail] ∧
      (t.ok = true ↔ t.status = .ready ∧ t.rej = false)) ∧
    (∀ code, exec (.stset code) s = .next t →
      (t.ok = true ↔ code = 0) ∧ (t.rej = true → t.status = s.status ∧ t.ok = false) ∧
      (t.rej = false → t.status.code = code)) ∧
    (∀ i, (i = .recoverAll ∨ ∃ bus, i = .recover bus) → exec i s = .next t →
      (t.rej = false → t.status = .ready ∧ t.ok = true) ∧ (t.rej = true → t.status = s.status ∧ t.ok = false)) ∧
    (∀ i, (i = .nop ∨ i = .csumClr ∨ ∃ b, i = .csumAdd b) → exec i s = .next t →
      t.status = s.status ∧ t.ok = s.ok ∧ t.rej = s.rej) ∧
    (∀ i ∈ [Instr.reserved9, .reserved10, .reserved11, .reserved12, .reserved13, .reserved14, .reserved15],
      exec i s = .next t → t.status = s.status ∧ t.ok = false ∧ t.rej = true)

/-- R46: NOP, CSUM_CLR, ENC, DECD, DECR and STSET issued twice leave what they leave issued once. -/
def Obligations.RepeatedOperationsAreIdempotent : Prop :=
  ∀ (i : Instr) (s t : State),
    (i ∈ [Instr.nop, .csumClr, .decd] ∨ (∃ cmd param, i = .enc cmd param) ∨ (∃ cmd, i = .decr cmd) ∨
      ∃ code, i = .stset code) →
    exec i s = .next t → exec i t = .next t

/-! ### The host's sequences (44_session_contract.md) -/

/-- A short write records I2C-length-error, a failed one I2C-write-error, the length error first; no reply is requested and
none is loaded (R183). The sequence is the environment as the model writes it (log entry 15). -/
def Obligations.WriteErrorsEndTheExchange : Prop :=
  ∀ (row : CmdRow) (param : Word) (address : Byte) (h : HostChoice) (bus : BusAnswer) (s : State),
    s.cfg.wellFormed = true → row ∈ s.cfg.cmdTable → s.busy = false →
    let e := sendCommand row.word param address h bus s
    (bus.accepted < row.len →
      e.success = false ∧ e.state.status = .i2cLengthError ∧ e.state.ok = false ∧
      e.state.rxbuf = s.rxbuf ∧ e.state.rxlen = s.rxlen ∧ ∀ c ∈ e.calls, requestsRead c = false) ∧
    (row.len ≤ bus.accepted → bus.errorCode ≠ 0 →
      e.success = false ∧ e.state.status = .i2cWriteError ∧ e.state.ok = false ∧
      e.state.rxbuf = s.rxbuf ∧ e.state.rxlen = s.rxlen ∧ ∀ c ∈ e.calls, requestsRead c = false)

/-- The measurement sequence (R188 to R190; the environment as the model writes it, log entry 15). After a clean write of
the format command nine bytes are requested and read one by one, a peek before each: if they pass, the fields are those
of the bytes and the result is success exactly when the bytes are a usable measurement; if their checksum fails, there
are no values; if fewer come, there are none either, and the registers hold none or the previous ones by the way of R189
the host takes. A write that fails ends it before any read. -/
def Obligations.GetDataFollowsTheFrame : Prop :=
  ∀ (address : Byte) (h : HostChoice) (bus : BusAnswer) (s : State),
    s.cfg.cmdTable = Config.defaultTable → s.busy = false →
    let write := [Call.bus (.beginWrite address), .bus (.write [0x5A, 0x05, 0x00, 0x01, 0x60] bus.accepted),
      .bus (.endWrite h.writeStop bus.errorCode)]
    (5 ≤ bus.accepted → bus.errorCode = 0 →
      (∀ (h0 h1 dl dh fl fh tl th c : Byte) (rest : List Byte),
        let r := getData address h bus (h0 :: h1 :: dl :: dh :: fl :: fh :: tl :: th :: c :: rest) s
        let t := r.exchange.state
        let sum := csum8 [h0, h1, dl, dh, fl, fh, tl, th]
        let temp := BitVec.ofInt 16 ((le16 tl th).toInt / 8 - 256)
        let usable := measurementStatus (le16 dl dh).toInt (le16 fl fh).toInt
        r.exchange.calls = write ++ .bus (.requestRead address 9 h.frame.sendStop) ::
          [h0, h1, dl, dh, fl, fh, tl, th, c].flatMap
            (fun b => [Call.bus (.byteAvailablePeek true), .bus (.readByte b)]) ∧
        t.acc = sum ∧ t.rej = false ∧
        (c = sum →
          r.values = some ⟨le16 dl dh, le16 fl fh, temp⟩ ∧
          t.mvalid = true ∧ t.dist = some (le16 dl dh) ∧ t.flux = some (le16 fl fh) ∧ t.temp = some temp ∧
          t.status = usable ∧ (r.exchange.success = true ↔ usable = .ready)) ∧
        (c ≠ sum →
          r.values = none ∧ r.exchange.success = false ∧ t.status = .checksumMismatch ∧ t.mvalid = false ∧
          t.dist = none ∧ t.flux = none ∧ t.temp = none)) ∧
      ∀ frame : List Byte, frame.length < 9 →
        let r := getData address h bus frame s
        let t := r.exchange.state
        r.values = none ∧ r.exchange.success = false ∧ t.status = .i2cReadError ∧
        r.exchange.calls = write ++ .bus (.requestRead address 9 h.frame.sendStop) ::
          frame.flatMap (fun b => [Call.bus (.byteAvailablePeek true), .bus (.readByte b)]) ++
          [.bus (.byteAvailablePeek false)] ∧
        (h.frame.short = .decode → t.mvalid = false ∧ t.dist = none ∧ t.flux = none ∧ t.temp = none) ∧
        (h.frame.short = .record →
          t.mvalid = s.mvalid ∧ t.dist = s.dist ∧ t.flux = s.flux ∧ t.temp = s.temp)) ∧
    (bus.accepted < 5 ∨ bus.errorCode ≠ 0 → ∀ frame : List Byte,
      let r := getData address h bus frame s
      let t := r.exchange.state
      r.values = none ∧ r.exchange.success = false ∧
      t.status = (if bus.accepted < 5 then .i2cLengthError else .i2cWriteError) ∧
      t.dist = s.dist ∧ t.flux = s.flux ∧ t.temp = s.temp ∧ t.mvalid = s.mvalid ∧ r.exchange.calls = write)
end

