-- ==== Sys2Proof/Laws/Bits.lean ====
section
/-! SUPPORT. The laws of the byte-order helpers (20_memory.md R47, R49) and of the table lookup (30_encoding.md R67). -/

namespace Sys2Proof

/-- The bytes of a word put together give the word. -/
theorem word32_byteK (w : Word) : word32 (byteK 0 w) (byteK 1 w) (byteK 2 w) (byteK 3 w) = w := by
  apply BitVec.eq_of_getLsbD_eq
  intro i hi
  simp only [byteK, word32, BitVec.getLsbD_append, BitVec.getLsbD_extractLsb']
  by_cases h1 : i < 8
  · simp [h1]
  · by_cases h2 : i - 8 < 8
    · simp [h1, h2]; congr 1; omega
    · by_cases h3 : i - 8 - 8 < 8
      · simp [h1, h2, h3]; congr 1; omega
      · simp [h1, h2, h3]
        have : i - 8 - 8 - 8 < 8 := by omega
        simp [this]; congr 1; omega

/-- `byte_0` of four bytes put together. -/
@[simp] theorem byteK_zero_word32 (b0 b1 b2 b3 : Byte) : byteK 0 (word32 b0 b1 b2 b3) = b0 := by
  apply BitVec.eq_of_getLsbD_eq
  intro i hi
  simp only [byteK, word32, BitVec.getLsbD_append, BitVec.getLsbD_extractLsb', Nat.mul_zero, Nat.zero_add]
  simp [hi]

/-- `byte_1` of four bytes put together. -/
@[simp] theorem byteK_one_word32 (b0 b1 b2 b3 : Byte) : byteK 1 (word32 b0 b1 b2 b3) = b1 := by
  apply BitVec.eq_of_getLsbD_eq
  intro i hi
  simp only [byteK, word32, BitVec.getLsbD_append, BitVec.getLsbD_extractLsb']
  rw [if_neg (by omega), if_pos (by omega), show 8 * 1 + i - 8 = i by omega]
  simp [hi]

/-- `byte_2` of four bytes put together. -/
@[simp] theorem byteK_two_word32 (b0 b1 b2 b3 : Byte) : byteK 2 (word32 b0 b1 b2 b3) = b2 := by
  apply BitVec.eq_of_getLsbD_eq
  intro i hi
  simp only [byteK, word32, BitVec.getLsbD_append, BitVec.getLsbD_extractLsb']
  rw [if_neg (by omega), if_neg (by omega), if_pos (by omega), show 8 * 2 + i - 8 - 8 = i by omega]
  simp [hi]

/-- `byte_3` of four bytes put together. -/
@[simp] theorem byteK_three_word32 (b0 b1 b2 b3 : Byte) : byteK 3 (word32 b0 b1 b2 b3) = b3 := by
  apply BitVec.eq_of_getLsbD_eq
  intro i hi
  simp only [byteK, word32, BitVec.getLsbD_append, BitVec.getLsbD_extractLsb']
  rw [if_neg (by omega), if_neg (by omega), if_neg (by omega), show 8 * 3 + i - 8 - 8 - 8 = i by omega]
  simp [hi]

/-- The last byte of a list and the bytes before it. -/
@[simp] theorem splitLast_append (l : List Byte) (c : Byte) : splitLast (l ++ [c]) = some (l, c) := by
  induction l with
  | nil => rfl
  | cons b l ih => simp [splitLast, ih]

/-- `splitLast` finds the last byte. -/
theorem splitLast_eq_some (l body : List Byte) (c : Byte) (h : splitLast l = some (body, c)) : l = body ++ [c] := by
  induction l generalizing body with
  | nil => simp [splitLast] at h
  | cons b l ih =>
    simp only [splitLast] at h
    cases hl : splitLast l with
    | none =>
      cases l with
      | nil => simp_all [splitLast]
      | cons d l =>
        simp only [splitLast] at hl
        split at hl <;> exact absurd hl (by simp)
    | some p =>
      obtain ⟨body', c'⟩ := p
      simp only [hl, Option.some.injEq, Prod.mk.injEq] at h
      obtain ⟨rfl, rfl⟩ := h
      simp [ih body' hl]

/-- What a row of a well-formed table satisfies (R67 (b) to (e)). -/
theorem CmdRow.facts (c : Config) (h : c.wellFormed = true) (row : CmdRow) (hr : row ∈ c.cmdTable) :
    (row.pw = 0 ∨ row.pw = 1 ∨ row.pw = 2 ∨ row.pw = 4) ∧ row.len = 4 + row.pw ∧
    (row.psrc = .none ↔ row.pw = 0) ∧ (row.psrc = .inline → row.pw = 1) ∧
    (row.kind = .none ↔ row.rpl = 0) ∧ row.rpl ≤ 9 ∧ row.kind.minReply ≤ row.rpl := by
  simp only [Config.wellFormed, Bool.and_eq_true, List.all_eq_true] at h
  obtain ⟨⟨hl, hp⟩, hk⟩ := h.2 row hr
  simp only [CmdRow.lenOk, Bool.and_eq_true, decide_eq_true_eq, List.mem_cons, List.not_mem_nil, or_false,
    beq_iff_eq] at hl
  simp only [CmdRow.replyOk, Bool.and_eq_true, decide_eq_true_eq, beq_iff_eq] at hk
  refine ⟨hl.1, hl.2, ?_, ?_, ?_, hk.1.2, hk.2⟩
  · unfold CmdRow.psrcOk at hp
    cases hs : row.psrc <;> simp [hs] at hp ⊢ <;> omega
  · intro hs
    simpa [CmdRow.psrcOk, hs] using hp
  · have := hk.1.1
    by_cases h1 : row.kind = .none <;> by_cases h2 : row.rpl = 0 <;> simp_all

/-- In a table without repeated words the lookup of a row's word finds the row (R67 (a)). -/
theorem find_word (t : List CmdRow) (h : distinctWords t = true) (row : CmdRow) (hr : row ∈ t) :
    t.find? (fun r => r.word == row.word) = some row := by
  induction t with
  | nil => simp at hr
  | cons q t ih =>
    simp only [distinctWords, Bool.and_eq_true, List.all_eq_true, bne_iff_ne, ne_eq] at h
    rcases List.mem_cons.1 hr with e | e
    · subst e; simp
    · have hne : q.word ≠ row.word := fun he => h.1 row e he.symm
      simp [hne, ih h.2 e]

end Sys2Proof
end

