-- ==== Sys2Proof/Laws/State.lean ====
section
/-! SUPPORT. What each named update of the state does to each field, so that no proof unfolds a record update. -/

namespace Sys2Proof.Machine

variable (s : State)

/-! ### `enter` -/

@[simp] theorem State.enter_acc : (s.enter).acc = s.acc := rfl
@[simp] theorem State.enter_txbuf : (s.enter).txbuf = s.txbuf := rfl
@[simp] theorem State.enter_txlen : (s.enter).txlen = s.txlen := rfl
@[simp] theorem State.enter_rplen : (s.enter).rplen = s.rplen := rfl
@[simp] theorem State.enter_rxbuf : (s.enter).rxbuf = s.rxbuf := rfl
@[simp] theorem State.enter_rxlen : (s.enter).rxlen = s.rxlen := rfl
@[simp] theorem State.enter_dist : (s.enter).dist = s.dist := rfl
@[simp] theorem State.enter_flux : (s.enter).flux = s.flux := rfl
@[simp] theorem State.enter_temp : (s.enter).temp = s.temp := rfl
@[simp] theorem State.enter_mvalid : (s.enter).mvalid = s.mvalid := rfl
@[simp] theorem State.enter_ver : (s.enter).ver = s.ver := rfl
@[simp] theorem State.enter_vvalid : (s.enter).vvalid = s.vvalid := rfl
@[simp] theorem State.enter_status : (s.enter).status = .ready := rfl
@[simp] theorem State.enter_ok : (s.enter).ok = true := rfl
@[simp] theorem State.enter_rej : (s.enter).rej = false := rfl
@[simp] theorem State.enter_busy : (s.enter).busy = s.busy := rfl
@[simp] theorem State.enter_rstep : (s.enter).rstep = s.rstep := rfl
@[simp] theorem State.enter_rbus : (s.enter).rbus = s.rbus := rfl
@[simp] theorem State.enter_rall : (s.enter).rall = s.rall := rfl
@[simp] theorem State.enter_pins0 : (s.enter).pins0 = s.pins0 := rfl
@[simp] theorem State.enter_pins1 : (s.enter).pins1 = s.pins1 := rfl
@[simp] theorem State.enter_done : (s.enter).done = s.done := rfl
@[simp] theorem State.enter_trace : (s.enter).trace = s.trace := rfl
@[simp] theorem State.enter_inbox : (s.enter).inbox = s.inbox := rfl
@[simp] theorem State.enter_epoch : (s.enter).epoch = s.epoch := rfl
@[simp] theorem State.enter_draws : (s.enter).draws = s.draws := rfl
@[simp] theorem State.enter_cfg : (s.enter).cfg = s.cfg := rfl

/-! ### `fail` -/

@[simp] theorem State.fail_acc (st : Status) : (s.fail st).acc = s.acc := rfl
@[simp] theorem State.fail_txbuf (st : Status) : (s.fail st).txbuf = s.txbuf := rfl
@[simp] theorem State.fail_txlen (st : Status) : (s.fail st).txlen = s.txlen := rfl
@[simp] theorem State.fail_rplen (st : Status) : (s.fail st).rplen = s.rplen := rfl
@[simp] theorem State.fail_rxbuf (st : Status) : (s.fail st).rxbuf = s.rxbuf := rfl
@[simp] theorem State.fail_rxlen (st : Status) : (s.fail st).rxlen = s.rxlen := rfl
@[simp] theorem State.fail_dist (st : Status) : (s.fail st).dist = s.dist := rfl
@[simp] theorem State.fail_flux (st : Status) : (s.fail st).flux = s.flux := rfl
@[simp] theorem State.fail_temp (st : Status) : (s.fail st).temp = s.temp := rfl
@[simp] theorem State.fail_mvalid (st : Status) : (s.fail st).mvalid = s.mvalid := rfl
@[simp] theorem State.fail_ver (st : Status) : (s.fail st).ver = s.ver := rfl
@[simp] theorem State.fail_vvalid (st : Status) : (s.fail st).vvalid = s.vvalid := rfl
@[simp] theorem State.fail_status (st : Status) : (s.fail st).status = st := rfl
@[simp] theorem State.fail_ok (st : Status) : (s.fail st).ok = false := rfl
@[simp] theorem State.fail_rej (st : Status) : (s.fail st).rej = s.rej := rfl
@[simp] theorem State.fail_busy (st : Status) : (s.fail st).busy = s.busy := rfl
@[simp] theorem State.fail_rstep (st : Status) : (s.fail st).rstep = s.rstep := rfl
@[simp] theorem State.fail_rbus (st : Status) : (s.fail st).rbus = s.rbus := rfl
@[simp] theorem State.fail_rall (st : Status) : (s.fail st).rall = s.rall := rfl
@[simp] theorem State.fail_pins0 (st : Status) : (s.fail st).pins0 = s.pins0 := rfl
@[simp] theorem State.fail_pins1 (st : Status) : (s.fail st).pins1 = s.pins1 := rfl
@[simp] theorem State.fail_done (st : Status) : (s.fail st).done = s.done := rfl
@[simp] theorem State.fail_trace (st : Status) : (s.fail st).trace = s.trace := rfl
@[simp] theorem State.fail_inbox (st : Status) : (s.fail st).inbox = s.inbox := rfl
@[simp] theorem State.fail_epoch (st : Status) : (s.fail st).epoch = s.epoch := rfl
@[simp] theorem State.fail_draws (st : Status) : (s.fail st).draws = s.draws := rfl
@[simp] theorem State.fail_cfg (st : Status) : (s.fail st).cfg = s.cfg := rfl

/-! ### `reject` -/

@[simp] theorem State.reject_acc : (s.reject).acc = s.acc := rfl
@[simp] theorem State.reject_txbuf : (s.reject).txbuf = s.txbuf := rfl
@[simp] theorem State.reject_txlen : (s.reject).txlen = s.txlen := rfl
@[simp] theorem State.reject_rplen : (s.reject).rplen = s.rplen := rfl
@[simp] theorem State.reject_rxbuf : (s.reject).rxbuf = s.rxbuf := rfl
@[simp] theorem State.reject_rxlen : (s.reject).rxlen = s.rxlen := rfl
@[simp] theorem State.reject_dist : (s.reject).dist = s.dist := rfl
@[simp] theorem State.reject_flux : (s.reject).flux = s.flux := rfl
@[simp] theorem State.reject_temp : (s.reject).temp = s.temp := rfl
@[simp] theorem State.reject_mvalid : (s.reject).mvalid = s.mvalid := rfl
@[simp] theorem State.reject_ver : (s.reject).ver = s.ver := rfl
@[simp] theorem State.reject_vvalid : (s.reject).vvalid = s.vvalid := rfl
@[simp] theorem State.reject_status : (s.reject).status = s.status := rfl
@[simp] theorem State.reject_ok : (s.reject).ok = false := rfl
@[simp] theorem State.reject_rej : (s.reject).rej = true := rfl
@[simp] theorem State.reject_busy : (s.reject).busy = s.busy := rfl
@[simp] theorem State.reject_rstep : (s.reject).rstep = s.rstep := rfl
@[simp] theorem State.reject_rbus : (s.reject).rbus = s.rbus := rfl
@[simp] theorem State.reject_rall : (s.reject).rall = s.rall := rfl
@[simp] theorem State.reject_pins0 : (s.reject).pins0 = s.pins0 := rfl
@[simp] theorem State.reject_pins1 : (s.reject).pins1 = s.pins1 := rfl
@[simp] theorem State.reject_done : (s.reject).done = s.done := rfl
@[simp] theorem State.reject_trace : (s.reject).trace = s.trace := rfl
@[simp] theorem State.reject_inbox : (s.reject).inbox = s.inbox := rfl
@[simp] theorem State.reject_epoch : (s.reject).epoch = s.epoch := rfl
@[simp] theorem State.reject_draws : (s.reject).draws = s.draws := rfl
@[simp] theorem State.reject_cfg : (s.reject).cfg = s.cfg := rfl

/-! ### `record` -/

@[simp] theorem State.record_acc (st : Status) : (s.record st).acc = s.acc := rfl
@[simp] theorem State.record_txbuf (st : Status) : (s.record st).txbuf = s.txbuf := rfl
@[simp] theorem State.record_txlen (st : Status) : (s.record st).txlen = s.txlen := rfl
@[simp] theorem State.record_rplen (st : Status) : (s.record st).rplen = s.rplen := rfl
@[simp] theorem State.record_rxbuf (st : Status) : (s.record st).rxbuf = s.rxbuf := rfl
@[simp] theorem State.record_rxlen (st : Status) : (s.record st).rxlen = s.rxlen := rfl
@[simp] theorem State.record_dist (st : Status) : (s.record st).dist = s.dist := rfl
@[simp] theorem State.record_flux (st : Status) : (s.record st).flux = s.flux := rfl
@[simp] theorem State.record_temp (st : Status) : (s.record st).temp = s.temp := rfl
@[simp] theorem State.record_mvalid (st : Status) : (s.record st).mvalid = s.mvalid := rfl
@[simp] theorem State.record_ver (st : Status) : (s.record st).ver = s.ver := rfl
@[simp] theorem State.record_vvalid (st : Status) : (s.record st).vvalid = s.vvalid := rfl
@[simp] theorem State.record_status (st : Status) : (s.record st).status = st := rfl
@[simp] theorem State.record_ok (st : Status) : (s.record st).ok = (st == .ready) := rfl
@[simp] theorem State.record_rej (st : Status) : (s.record st).rej = false := rfl
@[simp] theorem State.record_busy (st : Status) : (s.record st).busy = s.busy := rfl
@[simp] theorem State.record_rstep (st : Status) : (s.record st).rstep = s.rstep := rfl
@[simp] theorem State.record_rbus (st : Status) : (s.record st).rbus = s.rbus := rfl
@[simp] theorem State.record_rall (st : Status) : (s.record st).rall = s.rall := rfl
@[simp] theorem State.record_pins0 (st : Status) : (s.record st).pins0 = s.pins0 := rfl
@[simp] theorem State.record_pins1 (st : Status) : (s.record st).pins1 = s.pins1 := rfl
@[simp] theorem State.record_done (st : Status) : (s.record st).done = s.done := rfl
@[simp] theorem State.record_trace (st : Status) : (s.record st).trace = s.trace := rfl
@[simp] theorem State.record_inbox (st : Status) : (s.record st).inbox = s.inbox := rfl
@[simp] theorem State.record_epoch (st : Status) : (s.record st).epoch = s.epoch := rfl
@[simp] theorem State.record_draws (st : Status) : (s.record st).draws = s.draws := rfl
@[simp] theorem State.record_cfg (st : Status) : (s.record st).cfg = s.cfg := rfl

/-! ### `setAcc` -/

@[simp] theorem State.setAcc_acc (c : Byte) : (s.setAcc c).acc = c := rfl
@[simp] theorem State.setAcc_txbuf (c : Byte) : (s.setAcc c).txbuf = s.txbuf := rfl
@[simp] theorem State.setAcc_txlen (c : Byte) : (s.setAcc c).txlen = s.txlen := rfl
@[simp] theorem State.setAcc_rplen (c : Byte) : (s.setAcc c).rplen = s.rplen := rfl
@[simp] theorem State.setAcc_rxbuf (c : Byte) : (s.setAcc c).rxbuf = s.rxbuf := rfl
@[simp] theorem State.setAcc_rxlen (c : Byte) : (s.setAcc c).rxlen = s.rxlen := rfl
@[simp] theorem State.setAcc_dist (c : Byte) : (s.setAcc c).dist = s.dist := rfl
@[simp] theorem State.setAcc_flux (c : Byte) : (s.setAcc c).flux = s.flux := rfl
@[simp] theorem State.setAcc_temp (c : Byte) : (s.setAcc c).temp = s.temp := rfl
@[simp] theorem State.setAcc_mvalid (c : Byte) : (s.setAcc c).mvalid = s.mvalid := rfl
@[simp] theorem State.setAcc_ver (c : Byte) : (s.setAcc c).ver = s.ver := rfl
@[simp] theorem State.setAcc_vvalid (c : Byte) : (s.setAcc c).vvalid = s.vvalid := rfl
@[simp] theorem State.setAcc_status (c : Byte) : (s.setAcc c).status = s.status := rfl
@[simp] theorem State.setAcc_ok (c : Byte) : (s.setAcc c).ok = s.ok := rfl
@[simp] theorem State.setAcc_rej (c : Byte) : (s.setAcc c).rej = s.rej := rfl
@[simp] theorem State.setAcc_busy (c : Byte) : (s.setAcc c).busy = s.busy := rfl
@[simp] theorem State.setAcc_rstep (c : Byte) : (s.setAcc c).rstep = s.rstep := rfl
@[simp] theorem State.setAcc_rbus (c : Byte) : (s.setAcc c).rbus = s.rbus := rfl
@[simp] theorem State.setAcc_rall (c : Byte) : (s.setAcc c).rall = s.rall := rfl
@[simp] theorem State.setAcc_pins0 (c : Byte) : (s.setAcc c).pins0 = s.pins0 := rfl
@[simp] theorem State.setAcc_pins1 (c : Byte) : (s.setAcc c).pins1 = s.pins1 := rfl
@[simp] theorem State.setAcc_done (c : Byte) : (s.setAcc c).done = s.done := rfl
@[simp] theorem State.setAcc_trace (c : Byte) : (s.setAcc c).trace = s.trace := rfl
@[simp] theorem State.setAcc_inbox (c : Byte) : (s.setAcc c).inbox = s.inbox := rfl
@[simp] theorem State.setAcc_epoch (c : Byte) : (s.setAcc c).epoch = s.epoch := rfl
@[simp] theorem State.setAcc_draws (c : Byte) : (s.setAcc c).draws = s.draws := rfl
@[simp] theorem State.setAcc_cfg (c : Byte) : (s.setAcc c).cfg = s.cfg := rfl

/-! ### `putFrame` -/

@[simp] theorem State.putFrame_acc (buf : List Byte) (c : Byte) (len : Nibble) (rpl : Byte) : (s.putFrame buf c len rpl).acc = c := rfl
@[simp] theorem State.putFrame_txbuf (buf : List Byte) (c : Byte) (len : Nibble) (rpl : Byte) : (s.putFrame buf c len rpl).txbuf = Memory.ofBytes 0 buf := rfl
@[simp] theorem State.putFrame_txlen (buf : List Byte) (c : Byte) (len : Nibble) (rpl : Byte) : (s.putFrame buf c len rpl).txlen = len := rfl
@[simp] theorem State.putFrame_rplen (buf : List Byte) (c : Byte) (len : Nibble) (rpl : Byte) : (s.putFrame buf c len rpl).rplen = rpl := rfl
@[simp] theorem State.putFrame_rxbuf (buf : List Byte) (c : Byte) (len : Nibble) (rpl : Byte) : (s.putFrame buf c len rpl).rxbuf = s.rxbuf := rfl
@[simp] theorem State.putFrame_rxlen (buf : List Byte) (c : Byte) (len : Nibble) (rpl : Byte) : (s.putFrame buf c len rpl).rxlen = s.rxlen := rfl
@[simp] theorem State.putFrame_dist (buf : List Byte) (c : Byte) (len : Nibble) (rpl : Byte) : (s.putFrame buf c len rpl).dist = s.dist := rfl
@[simp] theorem State.putFrame_flux (buf : List Byte) (c : Byte) (len : Nibble) (rpl : Byte) : (s.putFrame buf c len rpl).flux = s.flux := rfl
@[simp] theorem State.putFrame_temp (buf : List Byte) (c : Byte) (len : Nibble) (rpl : Byte) : (s.putFrame buf c len rpl).temp = s.temp := rfl
@[simp] theorem State.putFrame_mvalid (buf : List Byte) (c : Byte) (len : Nibble) (rpl : Byte) : (s.putFrame buf c len rpl).mvalid = s.mvalid := rfl
@[simp] theorem State.putFrame_ver (buf : List Byte) (c : Byte) (len : Nibble) (rpl : Byte) : (s.putFrame buf c len rpl).ver = s.ver := rfl
@[simp] theorem State.putFrame_vvalid (buf : List Byte) (c : Byte) (len : Nibble) (rpl : Byte) : (s.putFrame buf c len rpl).vvalid = s.vvalid := rfl
@[simp] theorem State.putFrame_status (buf : List Byte) (c : Byte) (len : Nibble) (rpl : Byte) : (s.putFrame buf c len rpl).status = s.status := rfl
@[simp] theorem State.putFrame_ok (buf : List Byte) (c : Byte) (len : Nibble) (rpl : Byte) : (s.putFrame buf c len rpl).ok = s.ok := rfl
@[simp] theorem State.putFrame_rej (buf : List Byte) (c : Byte) (len : Nibble) (rpl : Byte) : (s.putFrame buf c len rpl).rej = s.rej := rfl
@[simp] theorem State.putFrame_busy (buf : List Byte) (c : Byte) (len : Nibble) (rpl : Byte) : (s.putFrame buf c len rpl).busy = s.busy := rfl
@[simp] theorem State.putFrame_rstep (buf : List Byte) (c : Byte) (len : Nibble) (rpl : Byte) : (s.putFrame buf c len rpl).rstep = s.rstep := rfl
@[simp] theorem State.putFrame_rbus (buf : List Byte) (c : Byte) (len : Nibble) (rpl : Byte) : (s.putFrame buf c len rpl).rbus = s.rbus := rfl
@[simp] theorem State.putFrame_rall (buf : List Byte) (c : Byte) (len : Nibble) (rpl : Byte) : (s.putFrame buf c len rpl).rall = s.rall := rfl
@[simp] theorem State.putFrame_pins0 (buf : List Byte) (c : Byte) (len : Nibble) (rpl : Byte) : (s.putFrame buf c len rpl).pins0 = s.pins0 := rfl
@[simp] theorem State.putFrame_pins1 (buf : List Byte) (c : Byte) (len : Nibble) (rpl : Byte) : (s.putFrame buf c len rpl).pins1 = s.pins1 := rfl
@[simp] theorem State.putFrame_done (buf : List Byte) (c : Byte) (len : Nibble) (rpl : Byte) : (s.putFrame buf c len rpl).done = s.done := rfl
@[simp] theorem State.putFrame_trace (buf : List Byte) (c : Byte) (len : Nibble) (rpl : Byte) : (s.putFrame buf c len rpl).trace = s.trace := rfl
@[simp] theorem State.putFrame_inbox (buf : List Byte) (c : Byte) (len : Nibble) (rpl : Byte) : (s.putFrame buf c len rpl).inbox = s.inbox := rfl
@[simp] theorem State.putFrame_epoch (buf : List Byte) (c : Byte) (len : Nibble) (rpl : Byte) : (s.putFrame buf c len rpl).epoch = s.epoch := rfl
@[simp] theorem State.putFrame_draws (buf : List Byte) (c : Byte) (len : Nibble) (rpl : Byte) : (s.putFrame buf c len rpl).draws = s.draws := rfl
@[simp] theorem State.putFrame_cfg (buf : List Byte) (c : Byte) (len : Nibble) (rpl : Byte) : (s.putFrame buf c len rpl).cfg = s.cfg := rfl

/-! ### `clearFrame` -/

@[simp] theorem State.clearFrame_acc : (s.clearFrame).acc = s.acc := rfl
@[simp] theorem State.clearFrame_txbuf : (s.clearFrame).txbuf = Memory.ofBytes 0 (List.replicate 8 0) := rfl
@[simp] theorem State.clearFrame_txlen : (s.clearFrame).txlen = 0 := rfl
@[simp] theorem State.clearFrame_rplen : (s.clearFrame).rplen = 0 := rfl
@[simp] theorem State.clearFrame_rxbuf : (s.clearFrame).rxbuf = s.rxbuf := rfl
@[simp] theorem State.clearFrame_rxlen : (s.clearFrame).rxlen = s.rxlen := rfl
@[simp] theorem State.clearFrame_dist : (s.clearFrame).dist = s.dist := rfl
@[simp] theorem State.clearFrame_flux : (s.clearFrame).flux = s.flux := rfl
@[simp] theorem State.clearFrame_temp : (s.clearFrame).temp = s.temp := rfl
@[simp] theorem State.clearFrame_mvalid : (s.clearFrame).mvalid = s.mvalid := rfl
@[simp] theorem State.clearFrame_ver : (s.clearFrame).ver = s.ver := rfl
@[simp] theorem State.clearFrame_vvalid : (s.clearFrame).vvalid = s.vvalid := rfl
@[simp] theorem State.clearFrame_status : (s.clearFrame).status = s.status := rfl
@[simp] theorem State.clearFrame_ok : (s.clearFrame).ok = s.ok := rfl
@[simp] theorem State.clearFrame_rej : (s.clearFrame).rej = s.rej := rfl
@[simp] theorem State.clearFrame_busy : (s.clearFrame).busy = s.busy := rfl
@[simp] theorem State.clearFrame_rstep : (s.clearFrame).rstep = s.rstep := rfl
@[simp] theorem State.clearFrame_rbus : (s.clearFrame).rbus = s.rbus := rfl
@[simp] theorem State.clearFrame_rall : (s.clearFrame).rall = s.rall := rfl
@[simp] theorem State.clearFrame_pins0 : (s.clearFrame).pins0 = s.pins0 := rfl
@[simp] theorem State.clearFrame_pins1 : (s.clearFrame).pins1 = s.pins1 := rfl
@[simp] theorem State.clearFrame_done : (s.clearFrame).done = s.done := rfl
@[simp] theorem State.clearFrame_trace : (s.clearFrame).trace = s.trace := rfl
@[simp] theorem State.clearFrame_inbox : (s.clearFrame).inbox = s.inbox := rfl
@[simp] theorem State.clearFrame_epoch : (s.clearFrame).epoch = s.epoch := rfl
@[simp] theorem State.clearFrame_draws : (s.clearFrame).draws = s.draws := rfl
@[simp] theorem State.clearFrame_cfg : (s.clearFrame).cfg = s.cfg := rfl

/-! ### `setFields` -/

@[simp] theorem State.setFields_acc (d f t : Half) : (s.setFields d f t).acc = s.acc := rfl
@[simp] theorem State.setFields_txbuf (d f t : Half) : (s.setFields d f t).txbuf = s.txbuf := rfl
@[simp] theorem State.setFields_txlen (d f t : Half) : (s.setFields d f t).txlen = s.txlen := rfl
@[simp] theorem State.setFields_rplen (d f t : Half) : (s.setFields d f t).rplen = s.rplen := rfl
@[simp] theorem State.setFields_rxbuf (d f t : Half) : (s.setFields d f t).rxbuf = s.rxbuf := rfl
@[simp] theorem State.setFields_rxlen (d f t : Half) : (s.setFields d f t).rxlen = s.rxlen := rfl
@[simp] theorem State.setFields_dist (d f t : Half) : (s.setFields d f t).dist = some d := rfl
@[simp] theorem State.setFields_flux (d f t : Half) : (s.setFields d f t).flux = some f := rfl
@[simp] theorem State.setFields_temp (d f t : Half) : (s.setFields d f t).temp = some t := rfl
@[simp] theorem State.setFields_mvalid (d f t : Half) : (s.setFields d f t).mvalid = true := rfl
@[simp] theorem State.setFields_ver (d f t : Half) : (s.setFields d f t).ver = s.ver := rfl
@[simp] theorem State.setFields_vvalid (d f t : Half) : (s.setFields d f t).vvalid = s.vvalid := rfl
@[simp] theorem State.setFields_status (d f t : Half) : (s.setFields d f t).status = s.status := rfl
@[simp] theorem State.setFields_ok (d f t : Half) : (s.setFields d f t).ok = s.ok := rfl
@[simp] theorem State.setFields_rej (d f t : Half) : (s.setFields d f t).rej = s.rej := rfl
@[simp] theorem State.setFields_busy (d f t : Half) : (s.setFields d f t).busy = s.busy := rfl
@[simp] theorem State.setFields_rstep (d f t : Half) : (s.setFields d f t).rstep = s.rstep := rfl
@[simp] theorem State.setFields_rbus (d f t : Half) : (s.setFields d f t).rbus = s.rbus := rfl
@[simp] theorem State.setFields_rall (d f t : Half) : (s.setFields d f t).rall = s.rall := rfl
@[simp] theorem State.setFields_pins0 (d f t : Half) : (s.setFields d f t).pins0 = s.pins0 := rfl
@[simp] theorem State.setFields_pins1 (d f t : Half) : (s.setFields d f t).pins1 = s.pins1 := rfl
@[simp] theorem State.setFields_done (d f t : Half) : (s.setFields d f t).done = s.done := rfl
@[simp] theorem State.setFields_trace (d f t : Half) : (s.setFields d f t).trace = s.trace := rfl
@[simp] theorem State.setFields_inbox (d f t : Half) : (s.setFields d f t).inbox = s.inbox := rfl
@[simp] theorem State.setFields_epoch (d f t : Half) : (s.setFields d f t).epoch = s.epoch := rfl
@[simp] theorem State.setFields_draws (d f t : Half) : (s.setFields d f t).draws = s.draws := rfl
@[simp] theorem State.setFields_cfg (d f t : Half) : (s.setFields d f t).cfg = s.cfg := rfl

/-! ### `undefFields` -/

@[simp] theorem State.undefFields_acc : (s.undefFields).acc = s.acc := rfl
@[simp] theorem State.undefFields_txbuf : (s.undefFields).txbuf = s.txbuf := rfl
@[simp] theorem State.undefFields_txlen : (s.undefFields).txlen = s.txlen := rfl
@[simp] theorem State.undefFields_rplen : (s.undefFields).rplen = s.rplen := rfl
@[simp] theorem State.undefFields_rxbuf : (s.undefFields).rxbuf = s.rxbuf := rfl
@[simp] theorem State.undefFields_rxlen : (s.undefFields).rxlen = s.rxlen := rfl
@[simp] theorem State.undefFields_dist : (s.undefFields).dist = none := rfl
@[simp] theorem State.undefFields_flux : (s.undefFields).flux = none := rfl
@[simp] theorem State.undefFields_temp : (s.undefFields).temp = none := rfl
@[simp] theorem State.undefFields_mvalid : (s.undefFields).mvalid = false := rfl
@[simp] theorem State.undefFields_ver : (s.undefFields).ver = s.ver := rfl
@[simp] theorem State.undefFields_vvalid : (s.undefFields).vvalid = s.vvalid := rfl
@[simp] theorem State.undefFields_status : (s.undefFields).status = s.status := rfl
@[simp] theorem State.undefFields_ok : (s.undefFields).ok = s.ok := rfl
@[simp] theorem State.undefFields_rej : (s.undefFields).rej = s.rej := rfl
@[simp] theorem State.undefFields_busy : (s.undefFields).busy = s.busy := rfl
@[simp] theorem State.undefFields_rstep : (s.undefFields).rstep = s.rstep := rfl
@[simp] theorem State.undefFields_rbus : (s.undefFields).rbus = s.rbus := rfl
@[simp] theorem State.undefFields_rall : (s.undefFields).rall = s.rall := rfl
@[simp] theorem State.undefFields_pins0 : (s.undefFields).pins0 = s.pins0 := rfl
@[simp] theorem State.undefFields_pins1 : (s.undefFields).pins1 = s.pins1 := rfl
@[simp] theorem State.undefFields_done : (s.undefFields).done = s.done := rfl
@[simp] theorem State.undefFields_trace : (s.undefFields).trace = s.trace := rfl
@[simp] theorem State.undefFields_inbox : (s.undefFields).inbox = s.inbox := rfl
@[simp] theorem State.undefFields_epoch : (s.undefFields).epoch = s.epoch := rfl
@[simp] theorem State.undefFields_draws : (s.undefFields).draws = s.draws := rfl
@[simp] theorem State.undefFields_cfg : (s.undefFields).cfg = s.cfg := rfl

/-! ### `setVersion` -/

@[simp] theorem State.setVersion_acc (v : Version) : (s.setVersion v).acc = s.acc := rfl
@[simp] theorem State.setVersion_txbuf (v : Version) : (s.setVersion v).txbuf = s.txbuf := rfl
@[simp] theorem State.setVersion_txlen (v : Version) : (s.setVersion v).txlen = s.txlen := rfl
@[simp] theorem State.setVersion_rplen (v : Version) : (s.setVersion v).rplen = s.rplen := rfl
@[simp] theorem State.setVersion_rxbuf (v : Version) : (s.setVersion v).rxbuf = s.rxbuf := rfl
@[simp] theorem State.setVersion_rxlen (v : Version) : (s.setVersion v).rxlen = s.rxlen := rfl
@[simp] theorem State.setVersion_dist (v : Version) : (s.setVersion v).dist = s.dist := rfl
@[simp] theorem State.setVersion_flux (v : Version) : (s.setVersion v).flux = s.flux := rfl
@[simp] theorem State.setVersion_temp (v : Version) : (s.setVersion v).temp = s.temp := rfl
@[simp] theorem State.setVersion_mvalid (v : Version) : (s.setVersion v).mvalid = s.mvalid := rfl
@[simp] theorem State.setVersion_ver (v : Version) : (s.setVersion v).ver = some v := rfl
@[simp] theorem State.setVersion_vvalid (v : Version) : (s.setVersion v).vvalid = true := rfl
@[simp] theorem State.setVersion_status (v : Version) : (s.setVersion v).status = s.status := rfl
@[simp] theorem State.setVersion_ok (v : Version) : (s.setVersion v).ok = s.ok := rfl
@[simp] theorem State.setVersion_rej (v : Version) : (s.setVersion v).rej = s.rej := rfl
@[simp] theorem State.setVersion_busy (v : Version) : (s.setVersion v).busy = s.busy := rfl
@[simp] theorem State.setVersion_rstep (v : Version) : (s.setVersion v).rstep = s.rstep := rfl
@[simp] theorem State.setVersion_rbus (v : Version) : (s.setVersion v).rbus = s.rbus := rfl
@[simp] theorem State.setVersion_rall (v : Version) : (s.setVersion v).rall = s.rall := rfl
@[simp] theorem State.setVersion_pins0 (v : Version) : (s.setVersion v).pins0 = s.pins0 := rfl
@[simp] theorem State.setVersion_pins1 (v : Version) : (s.setVersion v).pins1 = s.pins1 := rfl
@[simp] theorem State.setVersion_done (v : Version) : (s.setVersion v).done = s.done := rfl
@[simp] theorem State.setVersion_trace (v : Version) : (s.setVersion v).trace = s.trace := rfl
@[simp] theorem State.setVersion_inbox (v : Version) : (s.setVersion v).inbox = s.inbox := rfl
@[simp] theorem State.setVersion_epoch (v : Version) : (s.setVersion v).epoch = s.epoch := rfl
@[simp] theorem State.setVersion_draws (v : Version) : (s.setVersion v).draws = s.draws := rfl
@[simp] theorem State.setVersion_cfg (v : Version) : (s.setVersion v).cfg = s.cfg := rfl

/-! ### `rxLenWrite` -/

@[simp] theorem State.rxLenWrite_acc (n : Nibble) : (s.rxLenWrite n).acc = s.acc := rfl
@[simp] theorem State.rxLenWrite_txbuf (n : Nibble) : (s.rxLenWrite n).txbuf = s.txbuf := rfl
@[simp] theorem State.rxLenWrite_txlen (n : Nibble) : (s.rxLenWrite n).txlen = s.txlen := rfl
@[simp] theorem State.rxLenWrite_rplen (n : Nibble) : (s.rxLenWrite n).rplen = s.rplen := rfl
@[simp] theorem State.rxLenWrite_rxbuf (n : Nibble) : (s.rxLenWrite n).rxbuf = s.rxbuf := rfl
@[simp] theorem State.rxLenWrite_rxlen (n : Nibble) : (s.rxLenWrite n).rxlen = n := rfl
@[simp] theorem State.rxLenWrite_dist (n : Nibble) : (s.rxLenWrite n).dist = s.dist := rfl
@[simp] theorem State.rxLenWrite_flux (n : Nibble) : (s.rxLenWrite n).flux = s.flux := rfl
@[simp] theorem State.rxLenWrite_temp (n : Nibble) : (s.rxLenWrite n).temp = s.temp := rfl
@[simp] theorem State.rxLenWrite_mvalid (n : Nibble) : (s.rxLenWrite n).mvalid = s.mvalid := rfl
@[simp] theorem State.rxLenWrite_ver (n : Nibble) : (s.rxLenWrite n).ver = s.ver := rfl
@[simp] theorem State.rxLenWrite_vvalid (n : Nibble) : (s.rxLenWrite n).vvalid = s.vvalid := rfl
@[simp] theorem State.rxLenWrite_status (n : Nibble) : (s.rxLenWrite n).status = s.status := rfl
@[simp] theorem State.rxLenWrite_ok (n : Nibble) : (s.rxLenWrite n).ok = s.ok := rfl
@[simp] theorem State.rxLenWrite_rej (n : Nibble) : (s.rxLenWrite n).rej = s.rej := rfl
@[simp] theorem State.rxLenWrite_busy (n : Nibble) : (s.rxLenWrite n).busy = s.busy := rfl
@[simp] theorem State.rxLenWrite_rstep (n : Nibble) : (s.rxLenWrite n).rstep = s.rstep := rfl
@[simp] theorem State.rxLenWrite_rbus (n : Nibble) : (s.rxLenWrite n).rbus = s.rbus := rfl
@[simp] theorem State.rxLenWrite_rall (n : Nibble) : (s.rxLenWrite n).rall = s.rall := rfl
@[simp] theorem State.rxLenWrite_pins0 (n : Nibble) : (s.rxLenWrite n).pins0 = s.pins0 := rfl
@[simp] theorem State.rxLenWrite_pins1 (n : Nibble) : (s.rxLenWrite n).pins1 = s.pins1 := rfl
@[simp] theorem State.rxLenWrite_done (n : Nibble) : (s.rxLenWrite n).done = s.done := rfl
@[simp] theorem State.rxLenWrite_trace (n : Nibble) : (s.rxLenWrite n).trace = s.trace := rfl
@[simp] theorem State.rxLenWrite_inbox (n : Nibble) : (s.rxLenWrite n).inbox = s.inbox := rfl
@[simp] theorem State.rxLenWrite_epoch (n : Nibble) : (s.rxLenWrite n).epoch = s.epoch := rfl
@[simp] theorem State.rxLenWrite_draws (n : Nibble) : (s.rxLenWrite n).draws = s.draws := rfl
@[simp] theorem State.rxLenWrite_cfg (n : Nibble) : (s.rxLenWrite n).cfg = s.cfg := rfl

/-! ### `emit` -/

@[simp] theorem State.emit_acc (e : TraceEntry) : (s.emit e).acc = s.acc := rfl
@[simp] theorem State.emit_txbuf (e : TraceEntry) : (s.emit e).txbuf = s.txbuf := rfl
@[simp] theorem State.emit_txlen (e : TraceEntry) : (s.emit e).txlen = s.txlen := rfl
@[simp] theorem State.emit_rplen (e : TraceEntry) : (s.emit e).rplen = s.rplen := rfl
@[simp] theorem State.emit_rxbuf (e : TraceEntry) : (s.emit e).rxbuf = s.rxbuf := rfl
@[simp] theorem State.emit_rxlen (e : TraceEntry) : (s.emit e).rxlen = s.rxlen := rfl
@[simp] theorem State.emit_dist (e : TraceEntry) : (s.emit e).dist = s.dist := rfl
@[simp] theorem State.emit_flux (e : TraceEntry) : (s.emit e).flux = s.flux := rfl
@[simp] theorem State.emit_temp (e : TraceEntry) : (s.emit e).temp = s.temp := rfl
@[simp] theorem State.emit_mvalid (e : TraceEntry) : (s.emit e).mvalid = s.mvalid := rfl
@[simp] theorem State.emit_ver (e : TraceEntry) : (s.emit e).ver = s.ver := rfl
@[simp] theorem State.emit_vvalid (e : TraceEntry) : (s.emit e).vvalid = s.vvalid := rfl
@[simp] theorem State.emit_status (e : TraceEntry) : (s.emit e).status = s.status := rfl
@[simp] theorem State.emit_ok (e : TraceEntry) : (s.emit e).ok = s.ok := rfl
@[simp] theorem State.emit_rej (e : TraceEntry) : (s.emit e).rej = s.rej := rfl
@[simp] theorem State.emit_busy (e : TraceEntry) : (s.emit e).busy = s.busy := rfl
@[simp] theorem State.emit_rstep (e : TraceEntry) : (s.emit e).rstep = s.rstep := rfl
@[simp] theorem State.emit_rbus (e : TraceEntry) : (s.emit e).rbus = s.rbus := rfl
@[simp] theorem State.emit_rall (e : TraceEntry) : (s.emit e).rall = s.rall := rfl
@[simp] theorem State.emit_pins0 (e : TraceEntry) : (s.emit e).pins0 = s.pins0 := rfl
@[simp] theorem State.emit_pins1 (e : TraceEntry) : (s.emit e).pins1 = s.pins1 := rfl
@[simp] theorem State.emit_done (e : TraceEntry) : (s.emit e).done = s.done := rfl
@[simp] theorem State.emit_trace (e : TraceEntry) : (s.emit e).trace = s.trace ++ [e] := rfl
@[simp] theorem State.emit_inbox (e : TraceEntry) : (s.emit e).inbox = s.inbox := rfl
@[simp] theorem State.emit_epoch (e : TraceEntry) : (s.emit e).epoch = s.epoch := rfl
@[simp] theorem State.emit_draws (e : TraceEntry) : (s.emit e).draws = s.draws := rfl
@[simp] theorem State.emit_cfg (e : TraceEntry) : (s.emit e).cfg = s.cfg := rfl

/-! ### `startRecovery` -/

@[simp] theorem State.startRecovery_acc (b : Bus) (all : Bool) : (s.startRecovery b all).acc = s.acc := rfl
@[simp] theorem State.startRecovery_txbuf (b : Bus) (all : Bool) : (s.startRecovery b all).txbuf = s.txbuf := rfl
@[simp] theorem State.startRecovery_txlen (b : Bus) (all : Bool) : (s.startRecovery b all).txlen = s.txlen := rfl
@[simp] theorem State.startRecovery_rplen (b : Bus) (all : Bool) : (s.startRecovery b all).rplen = s.rplen := rfl
@[simp] theorem State.startRecovery_rxbuf (b : Bus) (all : Bool) : (s.startRecovery b all).rxbuf = s.rxbuf := rfl
@[simp] theorem State.startRecovery_rxlen (b : Bus) (all : Bool) : (s.startRecovery b all).rxlen = s.rxlen := rfl
@[simp] theorem State.startRecovery_dist (b : Bus) (all : Bool) : (s.startRecovery b all).dist = s.dist := rfl
@[simp] theorem State.startRecovery_flux (b : Bus) (all : Bool) : (s.startRecovery b all).flux = s.flux := rfl
@[simp] theorem State.startRecovery_temp (b : Bus) (all : Bool) : (s.startRecovery b all).temp = s.temp := rfl
@[simp] theorem State.startRecovery_mvalid (b : Bus) (all : Bool) : (s.startRecovery b all).mvalid = s.mvalid := rfl
@[simp] theorem State.startRecovery_ver (b : Bus) (all : Bool) : (s.startRecovery b all).ver = s.ver := rfl
@[simp] theorem State.startRecovery_vvalid (b : Bus) (all : Bool) : (s.startRecovery b all).vvalid = s.vvalid := rfl
@[simp] theorem State.startRecovery_status (b : Bus) (all : Bool) : (s.startRecovery b all).status = .ready := rfl
@[simp] theorem State.startRecovery_ok (b : Bus) (all : Bool) : (s.startRecovery b all).ok = true := rfl
@[simp] theorem State.startRecovery_rej (b : Bus) (all : Bool) : (s.startRecovery b all).rej = false := rfl
@[simp] theorem State.startRecovery_busy (b : Bus) (all : Bool) : (s.startRecovery b all).busy = true := rfl
@[simp] theorem State.startRecovery_rstep (b : Bus) (all : Bool) : (s.startRecovery b all).rstep = 1 := rfl
@[simp] theorem State.startRecovery_rbus (b : Bus) (all : Bool) : (s.startRecovery b all).rbus = b := rfl
@[simp] theorem State.startRecovery_rall (b : Bus) (all : Bool) : (s.startRecovery b all).rall = all := rfl
@[simp] theorem State.startRecovery_pins0 (b : Bus) (all : Bool) : (s.startRecovery b all).pins0 = s.pins0 := rfl
@[simp] theorem State.startRecovery_pins1 (b : Bus) (all : Bool) : (s.startRecovery b all).pins1 = s.pins1 := rfl
@[simp] theorem State.startRecovery_done (b : Bus) (all : Bool) : (s.startRecovery b all).done = s.done := rfl
@[simp] theorem State.startRecovery_trace (b : Bus) (all : Bool) : (s.startRecovery b all).trace = s.trace := rfl
@[simp] theorem State.startRecovery_inbox (b : Bus) (all : Bool) : (s.startRecovery b all).inbox = s.inbox := rfl
@[simp] theorem State.startRecovery_epoch (b : Bus) (all : Bool) : (s.startRecovery b all).epoch = s.epoch := rfl
@[simp] theorem State.startRecovery_draws (b : Bus) (all : Bool) : (s.startRecovery b all).draws = s.draws := rfl
@[simp] theorem State.startRecovery_cfg (b : Bus) (all : Bool) : (s.startRecovery b all).cfg = s.cfg := rfl

/-! ### `hwReset` -/

@[simp] theorem State.hwReset_acc : (s.hwReset).acc = 0 := rfl
@[simp] theorem State.hwReset_txbuf : (s.hwReset).txbuf = [] := rfl
@[simp] theorem State.hwReset_txlen : (s.hwReset).txlen = 0 := rfl
@[simp] theorem State.hwReset_rplen : (s.hwReset).rplen = 0 := rfl
@[simp] theorem State.hwReset_rxbuf : (s.hwReset).rxbuf = [] := rfl
@[simp] theorem State.hwReset_rxlen : (s.hwReset).rxlen = 0 := rfl
@[simp] theorem State.hwReset_dist : (s.hwReset).dist = none := rfl
@[simp] theorem State.hwReset_flux : (s.hwReset).flux = none := rfl
@[simp] theorem State.hwReset_temp : (s.hwReset).temp = none := rfl
@[simp] theorem State.hwReset_mvalid : (s.hwReset).mvalid = false := rfl
@[simp] theorem State.hwReset_ver : (s.hwReset).ver = none := rfl
@[simp] theorem State.hwReset_vvalid : (s.hwReset).vvalid = false := rfl
@[simp] theorem State.hwReset_status : (s.hwReset).status = .ready := rfl
@[simp] theorem State.hwReset_ok : (s.hwReset).ok = false := rfl
@[simp] theorem State.hwReset_rej : (s.hwReset).rej = false := rfl
@[simp] theorem State.hwReset_busy : (s.hwReset).busy = false := rfl
@[simp] theorem State.hwReset_rstep : (s.hwReset).rstep = 0 := rfl
@[simp] theorem State.hwReset_rbus : (s.hwReset).rbus = .bus0 := rfl
@[simp] theorem State.hwReset_rall : (s.hwReset).rall = false := rfl
@[simp] theorem State.hwReset_pins0 : (s.hwReset).pins0 = PinLatches.idle := rfl
@[simp] theorem State.hwReset_pins1 : (s.hwReset).pins1 = PinLatches.idle := rfl
@[simp] theorem State.hwReset_done : (s.hwReset).done = false := rfl
@[simp] theorem State.hwReset_trace : (s.hwReset).trace = s.trace := rfl
@[simp] theorem State.hwReset_inbox : (s.hwReset).inbox = s.inbox := rfl
@[simp] theorem State.hwReset_epoch : (s.hwReset).epoch = s.epoch + 1 := rfl
@[simp] theorem State.hwReset_draws : (s.hwReset).draws = s.draws := rfl
@[simp] theorem State.hwReset_cfg : (s.hwReset).cfg = s.cfg := rfl

/-! ### `setPins` -/

@[simp] theorem State.setPins_acc (b : Bus) (p : PinLatches) : (s.setPins b p).acc = s.acc := by cases b <;> rfl
@[simp] theorem State.setPins_txbuf (b : Bus) (p : PinLatches) : (s.setPins b p).txbuf = s.txbuf := by cases b <;> rfl
@[simp] theorem State.setPins_txlen (b : Bus) (p : PinLatches) : (s.setPins b p).txlen = s.txlen := by cases b <;> rfl
@[simp] theorem State.setPins_rplen (b : Bus) (p : PinLatches) : (s.setPins b p).rplen = s.rplen := by cases b <;> rfl
@[simp] theorem State.setPins_rxbuf (b : Bus) (p : PinLatches) : (s.setPins b p).rxbuf = s.rxbuf := by cases b <;> rfl
@[simp] theorem State.setPins_rxlen (b : Bus) (p : PinLatches) : (s.setPins b p).rxlen = s.rxlen := by cases b <;> rfl
@[simp] theorem State.setPins_dist (b : Bus) (p : PinLatches) : (s.setPins b p).dist = s.dist := by cases b <;> rfl
@[simp] theorem State.setPins_flux (b : Bus) (p : PinLatches) : (s.setPins b p).flux = s.flux := by cases b <;> rfl
@[simp] theorem State.setPins_temp (b : Bus) (p : PinLatches) : (s.setPins b p).temp = s.temp := by cases b <;> rfl
@[simp] theorem State.setPins_mvalid (b : Bus) (p : PinLatches) : (s.setPins b p).mvalid = s.mvalid := by cases b <;> rfl
@[simp] theorem State.setPins_ver (b : Bus) (p : PinLatches) : (s.setPins b p).ver = s.ver := by cases b <;> rfl
@[simp] theorem State.setPins_vvalid (b : Bus) (p : PinLatches) : (s.setPins b p).vvalid = s.vvalid := by cases b <;> rfl
@[simp] theorem State.setPins_status (b : Bus) (p : PinLatches) : (s.setPins b p).status = s.status := by cases b <;> rfl
@[simp] theorem State.setPins_ok (b : Bus) (p : PinLatches) : (s.setPins b p).ok = s.ok := by cases b <;> rfl
@[simp] theorem State.setPins_rej (b : Bus) (p : PinLatches) : (s.setPins b p).rej = s.rej := by cases b <;> rfl
@[simp] theorem State.setPins_busy (b : Bus) (p : PinLatches) : (s.setPins b p).busy = s.busy := by cases b <;> rfl
@[simp] theorem State.setPins_rstep (b : Bus) (p : PinLatches) : (s.setPins b p).rstep = s.rstep := by cases b <;> rfl
@[simp] theorem State.setPins_rbus (b : Bus) (p : PinLatches) : (s.setPins b p).rbus = s.rbus := by cases b <;> rfl
@[simp] theorem State.setPins_rall (b : Bus) (p : PinLatches) : (s.setPins b p).rall = s.rall := by cases b <;> rfl
@[simp] theorem State.setPins_done (b : Bus) (p : PinLatches) : (s.setPins b p).done = s.done := by cases b <;> rfl
@[simp] theorem State.setPins_trace (b : Bus) (p : PinLatches) : (s.setPins b p).trace = s.trace := by cases b <;> rfl
@[simp] theorem State.setPins_inbox (b : Bus) (p : PinLatches) : (s.setPins b p).inbox = s.inbox := by cases b <;> rfl
@[simp] theorem State.setPins_epoch (b : Bus) (p : PinLatches) : (s.setPins b p).epoch = s.epoch := by cases b <;> rfl
@[simp] theorem State.setPins_draws (b : Bus) (p : PinLatches) : (s.setPins b p).draws = s.draws := by cases b <;> rfl
@[simp] theorem State.setPins_cfg (b : Bus) (p : PinLatches) : (s.setPins b p).cfg = s.cfg := by cases b <;> rfl

@[simp] theorem State.setPins_pins (b : Bus) (p : PinLatches) : (s.setPins b p).pins b = p := by cases b <;> rfl

theorem State.setPins_pins_ne (b b' : Bus) (p : PinLatches) (h : b' ≠ b) : (s.setPins b p).pins b' = s.pins b' := by
  cases b <;> cases b' <;> first | rfl | exact absurd rfl h

/-! ### `rxWrite`, `rxWriteFrom`, `loadRx`: the write ports of the receive buffer touch nothing else (R42) -/

theorem State.rxWrite_eq (addr : Nat) (data : Byte) :
    s.rxWrite addr data = { s with rxbuf := (s.rxWrite addr data).rxbuf } := by
  unfold State.rxWrite; split <;> rfl

theorem State.rxWriteFrom_eq (s : State) (off : Nat) (bs : List Byte) :
    s.rxWriteFrom off bs = { s with rxbuf := (s.rxWriteFrom off bs).rxbuf } := by
  induction bs generalizing s off with
  | nil => rfl
  | cons b bs ih => simp only [State.rxWriteFrom]; rw [ih, s.rxWrite_eq off b]

theorem State.loadRx_eq (bs : List Byte) :
    s.loadRx bs =
      { s with rxbuf := (s.rxWriteFrom 0 bs).rxbuf, rxlen := BitVec.ofNat 4 bs.length } := by
  unfold State.loadRx; rw [s.rxWriteFrom_eq 0 bs]; rfl

@[simp] theorem State.rxWrite_acc (addr : Nat) (data : Byte) : (s.rxWrite addr data).acc = s.acc := by rw [s.rxWrite_eq]
@[simp] theorem State.rxWrite_txbuf (addr : Nat) (data : Byte) : (s.rxWrite addr data).txbuf = s.txbuf := by rw [s.rxWrite_eq]
@[simp] theorem State.rxWrite_txlen (addr : Nat) (data : Byte) : (s.rxWrite addr data).txlen = s.txlen := by rw [s.rxWrite_eq]
@[simp] theorem State.rxWrite_rplen (addr : Nat) (data : Byte) : (s.rxWrite addr data).rplen = s.rplen := by rw [s.rxWrite_eq]
@[simp] theorem State.rxWrite_rxlen (addr : Nat) (data : Byte) : (s.rxWrite addr data).rxlen = s.rxlen := by rw [s.rxWrite_eq]
@[simp] theorem State.rxWrite_dist (addr : Nat) (data : Byte) : (s.rxWrite addr data).dist = s.dist := by rw [s.rxWrite_eq]
@[simp] theorem State.rxWrite_flux (addr : Nat) (data : Byte) : (s.rxWrite addr data).flux = s.flux := by rw [s.rxWrite_eq]
@[simp] theorem State.rxWrite_temp (addr : Nat) (data : Byte) : (s.rxWrite addr data).temp = s.temp := by rw [s.rxWrite_eq]
@[simp] theorem State.rxWrite_mvalid (addr : Nat) (data : Byte) : (s.rxWrite addr data).mvalid = s.mvalid := by rw [s.rxWrite_eq]
@[simp] theorem State.rxWrite_ver (addr : Nat) (data : Byte) : (s.rxWrite addr data).ver = s.ver := by rw [s.rxWrite_eq]
@[simp] theorem State.rxWrite_vvalid (addr : Nat) (data : Byte) : (s.rxWrite addr data).vvalid = s.vvalid := by rw [s.rxWrite_eq]
@[simp] theorem State.rxWrite_status (addr : Nat) (data : Byte) : (s.rxWrite addr data).status = s.status := by rw [s.rxWrite_eq]
@[simp] theorem State.rxWrite_ok (addr : Nat) (data : Byte) : (s.rxWrite addr data).ok = s.ok := by rw [s.rxWrite_eq]
@[simp] theorem State.rxWrite_rej (addr : Nat) (data : Byte) : (s.rxWrite addr data).rej = s.rej := by rw [s.rxWrite_eq]
@[simp] theorem State.rxWrite_busy (addr : Nat) (data : Byte) : (s.rxWrite addr data).busy = s.busy := by rw [s.rxWrite_eq]
@[simp] theorem State.rxWrite_rstep (addr : Nat) (data : Byte) : (s.rxWrite addr data).rstep = s.rstep := by rw [s.rxWrite_eq]
@[simp] theorem State.rxWrite_rbus (addr : Nat) (data : Byte) : (s.rxWrite addr data).rbus = s.rbus := by rw [s.rxWrite_eq]
@[simp] theorem State.rxWrite_rall (addr : Nat) (data : Byte) : (s.rxWrite addr data).rall = s.rall := by rw [s.rxWrite_eq]
@[simp] theorem State.rxWrite_pins0 (addr : Nat) (data : Byte) : (s.rxWrite addr data).pins0 = s.pins0 := by rw [s.rxWrite_eq]
@[simp] theorem State.rxWrite_pins1 (addr : Nat) (data : Byte) : (s.rxWrite addr data).pins1 = s.pins1 := by rw [s.rxWrite_eq]
@[simp] theorem State.rxWrite_done (addr : Nat) (data : Byte) : (s.rxWrite addr data).done = s.done := by rw [s.rxWrite_eq]
@[simp] theorem State.rxWrite_trace (addr : Nat) (data : Byte) : (s.rxWrite addr data).trace = s.trace := by rw [s.rxWrite_eq]
@[simp] theorem State.rxWrite_inbox (addr : Nat) (data : Byte) : (s.rxWrite addr data).inbox = s.inbox := by rw [s.rxWrite_eq]
@[simp] theorem State.rxWrite_epoch (addr : Nat) (data : Byte) : (s.rxWrite addr data).epoch = s.epoch := by rw [s.rxWrite_eq]
@[simp] theorem State.rxWrite_draws (addr : Nat) (data : Byte) : (s.rxWrite addr data).draws = s.draws := by rw [s.rxWrite_eq]
@[simp] theorem State.rxWrite_cfg (addr : Nat) (data : Byte) : (s.rxWrite addr data).cfg = s.cfg := by rw [s.rxWrite_eq]

@[simp] theorem State.loadRx_acc (bs : List Byte) : (s.loadRx bs).acc = s.acc := by rw [s.loadRx_eq]
@[simp] theorem State.loadRx_txbuf (bs : List Byte) : (s.loadRx bs).txbuf = s.txbuf := by rw [s.loadRx_eq]
@[simp] theorem State.loadRx_txlen (bs : List Byte) : (s.loadRx bs).txlen = s.txlen := by rw [s.loadRx_eq]
@[simp] theorem State.loadRx_rplen (bs : List Byte) : (s.loadRx bs).rplen = s.rplen := by rw [s.loadRx_eq]
@[simp] theorem State.loadRx_rxlen (bs : List Byte) : (s.loadRx bs).rxlen = BitVec.ofNat 4 bs.length := by rw [s.loadRx_eq]
@[simp] theorem State.loadRx_dist (bs : List Byte) : (s.loadRx bs).dist = s.dist := by rw [s.loadRx_eq]
@[simp] theorem State.loadRx_flux (bs : List Byte) : (s.loadRx bs).flux = s.flux := by rw [s.loadRx_eq]
@[simp] theorem State.loadRx_temp (bs : List Byte) : (s.loadRx bs).temp = s.temp := by rw [s.loadRx_eq]
@[simp] theorem State.loadRx_mvalid (bs : List Byte) : (s.loadRx bs).mvalid = s.mvalid := by rw [s.loadRx_eq]
@[simp] theorem State.loadRx_ver (bs : List Byte) : (s.loadRx bs).ver = s.ver := by rw [s.loadRx_eq]
@[simp] theorem State.loadRx_vvalid (bs : List Byte) : (s.loadRx bs).vvalid = s.vvalid := by rw [s.loadRx_eq]
@[simp] theorem State.loadRx_status (bs : List Byte) : (s.loadRx bs).status = s.status := by rw [s.loadRx_eq]
@[simp] theorem State.loadRx_ok (bs : List Byte) : (s.loadRx bs).ok = s.ok := by rw [s.loadRx_eq]
@[simp] theorem State.loadRx_rej (bs : List Byte) : (s.loadRx bs).rej = s.rej := by rw [s.loadRx_eq]
@[simp] theorem State.loadRx_busy (bs : List Byte) : (s.loadRx bs).busy = s.busy := by rw [s.loadRx_eq]
@[simp] theorem State.loadRx_rstep (bs : List Byte) : (s.loadRx bs).rstep = s.rstep := by rw [s.loadRx_eq]
@[simp] theorem State.loadRx_rbus (bs : List Byte) : (s.loadRx bs).rbus = s.rbus := by rw [s.loadRx_eq]
@[simp] theorem State.loadRx_rall (bs : List Byte) : (s.loadRx bs).rall = s.rall := by rw [s.loadRx_eq]
@[simp] theorem State.loadRx_pins0 (bs : List Byte) : (s.loadRx bs).pins0 = s.pins0 := by rw [s.loadRx_eq]
@[simp] theorem State.loadRx_pins1 (bs : List Byte) : (s.loadRx bs).pins1 = s.pins1 := by rw [s.loadRx_eq]
@[simp] theorem State.loadRx_done (bs : List Byte) : (s.loadRx bs).done = s.done := by rw [s.loadRx_eq]
@[simp] theorem State.loadRx_trace (bs : List Byte) : (s.loadRx bs).trace = s.trace := by rw [s.loadRx_eq]
@[simp] theorem State.loadRx_inbox (bs : List Byte) : (s.loadRx bs).inbox = s.inbox := by rw [s.loadRx_eq]
@[simp] theorem State.loadRx_epoch (bs : List Byte) : (s.loadRx bs).epoch = s.epoch := by rw [s.loadRx_eq]
@[simp] theorem State.loadRx_draws (bs : List Byte) : (s.loadRx bs).draws = s.draws := by rw [s.loadRx_eq]
@[simp] theorem State.loadRx_cfg (bs : List Byte) : (s.loadRx bs).cfg = s.cfg := by rw [s.loadRx_eq]
@[simp] theorem State.loadRx_rxbuf (bs : List Byte) : (s.loadRx bs).rxbuf = (s.rxWriteFrom 0 bs).rxbuf := by
  rw [s.loadRx_eq]

theorem State.hostWrite_eq (w : HostWrite) :
    s.hostWrite w = { s with rxbuf := (s.hostWrite w).rxbuf, rxlen := (s.hostWrite w).rxlen } := by
  cases w with
  | cell addr data => simp only [State.hostWrite]; unfold State.rxWrite; split <;> rfl
  | length n => rfl

@[simp] theorem State.hostWrite_acc (w : HostWrite) : (s.hostWrite w).acc = s.acc := by rw [s.hostWrite_eq]
@[simp] theorem State.hostWrite_txbuf (w : HostWrite) : (s.hostWrite w).txbuf = s.txbuf := by rw [s.hostWrite_eq]
@[simp] theorem State.hostWrite_txlen (w : HostWrite) : (s.hostWrite w).txlen = s.txlen := by rw [s.hostWrite_eq]
@[simp] theorem State.hostWrite_rplen (w : HostWrite) : (s.hostWrite w).rplen = s.rplen := by rw [s.hostWrite_eq]
@[simp] theorem State.hostWrite_dist (w : HostWrite) : (s.hostWrite w).dist = s.dist := by rw [s.hostWrite_eq]
@[simp] theorem State.hostWrite_flux (w : HostWrite) : (s.hostWrite w).flux = s.flux := by rw [s.hostWrite_eq]
@[simp] theorem State.hostWrite_temp (w : HostWrite) : (s.hostWrite w).temp = s.temp := by rw [s.hostWrite_eq]
@[simp] theorem State.hostWrite_mvalid (w : HostWrite) : (s.hostWrite w).mvalid = s.mvalid := by rw [s.hostWrite_eq]
@[simp] theorem State.hostWrite_ver (w : HostWrite) : (s.hostWrite w).ver = s.ver := by rw [s.hostWrite_eq]
@[simp] theorem State.hostWrite_vvalid (w : HostWrite) : (s.hostWrite w).vvalid = s.vvalid := by rw [s.hostWrite_eq]
@[simp] theorem State.hostWrite_status (w : HostWrite) : (s.hostWrite w).status = s.status := by rw [s.hostWrite_eq]
@[simp] theorem State.hostWrite_ok (w : HostWrite) : (s.hostWrite w).ok = s.ok := by rw [s.hostWrite_eq]
@[simp] theorem State.hostWrite_rej (w : HostWrite) : (s.hostWrite w).rej = s.rej := by rw [s.hostWrite_eq]
@[simp] theorem State.hostWrite_busy (w : HostWrite) : (s.hostWrite w).busy = s.busy := by rw [s.hostWrite_eq]
@[simp] theorem State.hostWrite_rstep (w : HostWrite) : (s.hostWrite w).rstep = s.rstep := by rw [s.hostWrite_eq]
@[simp] theorem State.hostWrite_rbus (w : HostWrite) : (s.hostWrite w).rbus = s.rbus := by rw [s.hostWrite_eq]
@[simp] theorem State.hostWrite_rall (w : HostWrite) : (s.hostWrite w).rall = s.rall := by rw [s.hostWrite_eq]
@[simp] theorem State.hostWrite_pins0 (w : HostWrite) : (s.hostWrite w).pins0 = s.pins0 := by rw [s.hostWrite_eq]
@[simp] theorem State.hostWrite_pins1 (w : HostWrite) : (s.hostWrite w).pins1 = s.pins1 := by rw [s.hostWrite_eq]
@[simp] theorem State.hostWrite_done (w : HostWrite) : (s.hostWrite w).done = s.done := by rw [s.hostWrite_eq]
@[simp] theorem State.hostWrite_trace (w : HostWrite) : (s.hostWrite w).trace = s.trace := by rw [s.hostWrite_eq]
@[simp] theorem State.hostWrite_inbox (w : HostWrite) : (s.hostWrite w).inbox = s.inbox := by rw [s.hostWrite_eq]
@[simp] theorem State.hostWrite_epoch (w : HostWrite) : (s.hostWrite w).epoch = s.epoch := by rw [s.hostWrite_eq]
@[simp] theorem State.hostWrite_draws (w : HostWrite) : (s.hostWrite w).draws = s.draws := by rw [s.hostWrite_eq]
@[simp] theorem State.hostWrite_cfg (w : HostWrite) : (s.hostWrite w).cfg = s.cfg := by rw [s.hostWrite_eq]

/-! ### `failIf` -/

@[simp] theorem State.failIf_none : s.failIf none = s := rfl

@[simp] theorem State.failIf_some (st : Status) : s.failIf (some st) = s.fail st := rfl

@[simp] theorem State.failIf_acc (o : Option Status) : (s.failIf o).acc = s.acc := by cases o <;> rfl
@[simp] theorem State.failIf_txbuf (o : Option Status) : (s.failIf o).txbuf = s.txbuf := by cases o <;> rfl
@[simp] theorem State.failIf_txlen (o : Option Status) : (s.failIf o).txlen = s.txlen := by cases o <;> rfl
@[simp] theorem State.failIf_rplen (o : Option Status) : (s.failIf o).rplen = s.rplen := by cases o <;> rfl
@[simp] theorem State.failIf_rxbuf (o : Option Status) : (s.failIf o).rxbuf = s.rxbuf := by cases o <;> rfl
@[simp] theorem State.failIf_rxlen (o : Option Status) : (s.failIf o).rxlen = s.rxlen := by cases o <;> rfl
@[simp] theorem State.failIf_dist (o : Option Status) : (s.failIf o).dist = s.dist := by cases o <;> rfl
@[simp] theorem State.failIf_flux (o : Option Status) : (s.failIf o).flux = s.flux := by cases o <;> rfl
@[simp] theorem State.failIf_temp (o : Option Status) : (s.failIf o).temp = s.temp := by cases o <;> rfl
@[simp] theorem State.failIf_mvalid (o : Option Status) : (s.failIf o).mvalid = s.mvalid := by cases o <;> rfl
@[simp] theorem State.failIf_ver (o : Option Status) : (s.failIf o).ver = s.ver := by cases o <;> rfl
@[simp] theorem State.failIf_vvalid (o : Option Status) : (s.failIf o).vvalid = s.vvalid := by cases o <;> rfl
@[simp] theorem State.failIf_rej (o : Option Status) : (s.failIf o).rej = s.rej := by cases o <;> rfl
@[simp] theorem State.failIf_busy (o : Option Status) : (s.failIf o).busy = s.busy := by cases o <;> rfl
@[simp] theorem State.failIf_rstep (o : Option Status) : (s.failIf o).rstep = s.rstep := by cases o <;> rfl
@[simp] theorem State.failIf_rbus (o : Option Status) : (s.failIf o).rbus = s.rbus := by cases o <;> rfl
@[simp] theorem State.failIf_rall (o : Option Status) : (s.failIf o).rall = s.rall := by cases o <;> rfl
@[simp] theorem State.failIf_pins0 (o : Option Status) : (s.failIf o).pins0 = s.pins0 := by cases o <;> rfl
@[simp] theorem State.failIf_pins1 (o : Option Status) : (s.failIf o).pins1 = s.pins1 := by cases o <;> rfl
@[simp] theorem State.failIf_done (o : Option Status) : (s.failIf o).done = s.done := by cases o <;> rfl
@[simp] theorem State.failIf_trace (o : Option Status) : (s.failIf o).trace = s.trace := by cases o <;> rfl
@[simp] theorem State.failIf_inbox (o : Option Status) : (s.failIf o).inbox = s.inbox := by cases o <;> rfl
@[simp] theorem State.failIf_epoch (o : Option Status) : (s.failIf o).epoch = s.epoch := by cases o <;> rfl
@[simp] theorem State.failIf_draws (o : Option Status) : (s.failIf o).draws = s.draws := by cases o <;> rfl
@[simp] theorem State.failIf_cfg (o : Option Status) : (s.failIf o).cfg = s.cfg := by cases o <;> rfl

end Sys2Proof.Machine
end

