-- ==== Sys2Proof/Laws/Memory.lean ====
section
/-! SUPPORT. The laws of a byte buffer: what a read gives after a write, and that every operation keeps the canonical
form (20_memory.md R44). -/

namespace Sys2Proof.Machine

@[simp] theorem Memory.read_write_same (m : Memory) (a : Nat) (v : Byte) :
    Memory.read (Memory.write m a v) a = some v := by
  induction m with
  | nil => simp [Memory.write, Memory.read]
  | cons c m ih =>
    obtain ⟨k, w⟩ := c
    simp only [Memory.write]
    split
    · simp [Memory.read]
    · split
      · simp [Memory.read]
      · rename_i h1 h2
        simp [Memory.read, Ne.symm h2, ih]

theorem Memory.read_write_ne (m : Memory) (a b : Nat) (v : Byte) (h : b ≠ a) :
    Memory.read (Memory.write m a v) b = Memory.read m b := by
  induction m with
  | nil => simp [Memory.write, Memory.read, Ne.symm h]
  | cons c m ih =>
    obtain ⟨k, w⟩ := c
    simp only [Memory.write]
    split
    · simp [Memory.read, Ne.symm h]
    · split
      · rename_i h1 h2
        subst h2
        simp [Memory.read, Ne.symm h]
      · simp only [Memory.read, ih]

theorem Memory.wf_cons (c : Host.Cell) (m : Memory) :
    Memory.wf (c :: m) = true ↔ (∀ d ∈ m.head?, c.1 < d.1) ∧ Memory.wf m = true := by
  cases m with
  | nil => simp [Memory.wf]
  | cons d m => simp [Memory.wf]

theorem Memory.head_write (m : Memory) (a : Nat) (v : Byte) (d : Host.Cell)
    (h : d ∈ (Memory.write m a v).head?) : d.1 = a ∨ d ∈ m.head? := by
  cases m with
  | nil =>
    simp only [Memory.write, List.head?_cons, Option.mem_some_iff] at h
    subst h; exact .inl rfl
  | cons c m =>
    obtain ⟨k, w⟩ := c
    simp only [Memory.write] at h
    split at h
    · simp only [List.head?_cons, Option.mem_some_iff] at h; subst h; exact .inl rfl
    · split at h
      · simp only [List.head?_cons, Option.mem_some_iff] at h; subst h; exact .inl rfl
      · simp only [List.head?_cons, Option.mem_some_iff] at h; subst h; exact .inr rfl

/-- A write keeps the canonical form. -/
theorem Memory.write_wf (m : Memory) (a : Nat) (v : Byte) (h : Memory.wf m = true) :
    Memory.wf (Memory.write m a v) = true := by
  induction m with
  | nil => rfl
  | cons c m ih =>
    obtain ⟨k, w⟩ := c
    have hc := (Memory.wf_cons _ _).1 h
    simp only [Memory.write]
    split
    · rename_i hlt
      exact (Memory.wf_cons _ _).2 ⟨by simpa using hlt, h⟩
    · split
      · rename_i h1 h2
        exact (Memory.wf_cons _ _).2 ⟨by simpa [h2] using hc.1, hc.2⟩
      · rename_i h1 h2
        refine (Memory.wf_cons _ _).2 ⟨fun d hd => ?_, ih hc.2⟩
        rcases Memory.head_write m a v d hd with e | e
        · simp only [e]; omega
        · exact hc.1 d e

/-- A write lists no cell but the old ones and its own. -/
theorem Memory.mem_write (m : Memory) (a : Nat) (v : Byte) (c : Host.Cell)
    (h : c ∈ Memory.write m a v) : c = (a, v) ∨ c ∈ m := by
  induction m with
  | nil => simpa [Memory.write] using h
  | cons d m ih =>
    obtain ⟨k, w⟩ := d
    simp only [Memory.write] at h
    split at h
    · simpa using h
    · split at h
      · rcases List.mem_cons.1 h with e | e
        · exact .inl e
        · exact .inr (List.mem_cons_of_mem _ e)
      · rcases List.mem_cons.1 h with e | e
        · exact .inr (e ▸ List.mem_cons_self ..)
        · rcases ih e with e | e
          · exact .inl e
          · exact .inr (List.mem_cons_of_mem _ e)

@[simp] theorem Memory.ofBytes_offsets (off : Nat) (bs : List Byte) :
    (Memory.ofBytes off bs).map Prod.fst = List.range' off bs.length := by
  induction bs generalizing off with
  | nil => rfl
  | cons b bs ih => simp [Memory.ofBytes, ih, List.range'_succ]

/-- A buffer built from bytes is canonical. -/
theorem Memory.ofBytes_wf (off : Nat) (bs : List Byte) : Memory.wf (Memory.ofBytes off bs) = true := by
  induction bs generalizing off with
  | nil => rfl
  | cons b bs ih =>
    refine (Memory.wf_cons _ _).2 ⟨fun d hd => ?_, ih (off + 1)⟩
    cases bs with
    | nil => simp [Memory.ofBytes] at hd
    | cons b' bs =>
      simp only [Memory.ofBytes, List.head?_cons, Option.mem_some_iff] at hd
      subst hd; exact Nat.lt_succ_self off

/-- What a buffer built from bytes holds. -/
theorem Memory.read_ofBytes (off : Nat) (bs : List Byte) (i : Nat) :
    Memory.read (Memory.ofBytes off bs) (off + i) = bs[i]? := by
  induction bs generalizing off i with
  | nil => rfl
  | cons b bs ih =>
    cases i with
    | zero => simp [Memory.ofBytes, Memory.read]
    | succ i =>
      have : off ≠ off + (i + 1) := by omega
      simp only [Memory.ofBytes, Memory.read, if_neg this]
      rw [show off + (i + 1) = (off + 1) + i by omega, ih]
      simp

/-- The host's write port keeps the receive buffer canonical and inside its nine cells. -/
theorem State.rxWrite_wf (s : State) (addr : Nat) (data : Byte) (h : Memory.wf s.rxbuf = true) :
    Memory.wf (s.rxWrite addr data).rxbuf = true := by
  unfold State.rxWrite
  split
  · exact Memory.write_wf _ _ _ h
  · exact h

theorem State.rxWrite_bound (s : State) (addr : Nat) (data : Byte) (h : ∀ c ∈ s.rxbuf, c.1 ≤ 8) :
    ∀ c ∈ (s.rxWrite addr data).rxbuf, c.1 ≤ 8 := by
  unfold State.rxWrite
  split
  · intro c hc
    rcases Memory.mem_write _ _ _ _ hc with e | e
    · subst e; assumption
    · exact h c e
  · exact h

theorem State.rxWriteFrom_wf (s : State) (off : Nat) (bs : List Byte) (h : Memory.wf s.rxbuf = true) :
    Memory.wf (s.rxWriteFrom off bs).rxbuf = true := by
  induction bs generalizing s off with
  | nil => exact h
  | cons b bs ih => exact ih _ _ (s.rxWrite_wf off b h)

theorem State.rxWriteFrom_bound (s : State) (off : Nat) (bs : List Byte) (h : ∀ c ∈ s.rxbuf, c.1 ≤ 8) :
    ∀ c ∈ (s.rxWriteFrom off bs).rxbuf, c.1 ≤ 8 := by
  induction bs generalizing s off with
  | nil => exact h
  | cons b bs ih => exact ih _ _ (s.rxWrite_bound off b h)

/-- What a cell holds after the bytes of a list were written from offset `off` upwards, none beyond offset 8. -/
theorem State.read_rxWriteFrom (s : State) (off : Nat) (bs : List Byte) (h : off + bs.length ≤ 9) (a : Nat) :
    Memory.read (s.rxWriteFrom off bs).rxbuf a =
      if off ≤ a ∧ a < off + bs.length then bs[a - off]? else Memory.read s.rxbuf a := by
  induction bs generalizing s off with
  | nil => simp only [State.rxWriteFrom, List.length_nil]; rw [if_neg (by omega)]
  | cons b bs ih =>
    simp only [List.length_cons] at h ⊢
    simp only [State.rxWriteFrom]
    rw [ih _ _ (by omega)]
    have hw : (s.rxWrite off b).rxbuf = Memory.write s.rxbuf off b := by
      unfold State.rxWrite; rw [if_pos (by omega)]
    rw [hw]
    by_cases h1 : off + 1 ≤ a ∧ a < off + 1 + bs.length
    · rw [if_pos h1, if_pos (by omega), show a - off = (a - (off + 1)) + 1 by omega, List.getElem?_cons_succ]
    · rw [if_neg h1]
      by_cases h2 : a = off
      · subst h2
        rw [if_pos (by omega)]; simp
      · rw [if_neg (by omega), Memory.read_write_ne _ _ _ _ h2]

/-- `RX[a]` after `RX <- bytes` (R187), for a list that fits the buffer. -/
theorem rxRead_loadRx (s : State) (bs : List Byte) (h : bs.length ≤ 9) (a : Nat) :
    rxRead (s.loadRx bs) a = if h : a < bs.length then bs[a] else rxRead s a := by
  simp only [rxRead, State.loadRx_rxbuf, State.loadRx_epoch]
  rw [s.read_rxWriteFrom 0 bs (by omega) a]
  by_cases ha : a < bs.length
  · rw [if_pos (by omega), dif_pos ha]; simp [ha]
  · rw [if_neg (by omega), dif_neg ha]

/-- The first bytes of `RX` after `RX <-` of a list and its last byte: the list (R80, R95). -/
theorem rxRange_loadRx (s : State) (body : List Byte) (c : Byte) (h : body.length ≤ 8) :
    rxRange (s.loadRx (body ++ [c])) body.length = body := by
  apply List.ext_getElem (by simp [rxRange])
  intro i h1 h2
  simp only [rxRange, List.getElem_map, List.getElem_range]
  rw [rxRead_loadRx _ _ (by simp; omega), dif_pos (by simp; omega), List.getElem_append_left h2]

theorem reset_memory_wf : Memory.wf State.reset.txbuf = true ∧ Memory.wf State.reset.rxbuf = true := ⟨rfl, rfl⟩

end Sys2Proof.Machine
end

