-- ==== Sys2Proof/Laws/Exec.lean ====
section
/-! SUPPORT. What a shared operation, an instruction and a step can do, said once: the core operations an instruction
runs, one equation per case of each core operation, and the inversion of a step. -/

namespace Sys2Proof.Machine

/-! ### Admission -/

theorem admitted_busy (f : State → State) (s : State) (h : s.busy = true) : admitted f s = s := by
  simp [admitted, h]

theorem admitted_free (f : State → State) (s : State) (h : s.busy = false) : admitted f s = f s := by
  simp [admitted, h]

/-- The two cases of admission (R31, R241). -/
theorem admitted_cases (f : State → State) (s : State) :
    (s.busy = true ∧ admitted f s = s) ∨ (s.busy = false ∧ admitted f s = f s) := by
  cases h : s.busy
  · exact .inr ⟨rfl, admitted_free f s h⟩
  · exact .inl ⟨rfl, admitted_busy f s h⟩

@[simp] theorem present_eq (f : State → State) (s : State) : present f s = .next (admitted f s) := rfl

/-! ### The operations of the block

Every instruction is one of these, admitted, after the bytes it places in `RXBUF`, if it places any. -/

/-- The core operations. -/
inductive CoreOp where
  | nop | csumClr | csumAdd (b : Byte) | enc (cmd param : Word) | decd | decr (cmd : Word) | stset (code : Nibble)
  | reserved | recover (bus : BitVec 1) | recoverAll

/-- The transition of a core operation. -/
def CoreOp.run : CoreOp → State → State
  | .nop => fun s => s
  | .csumClr => fun s => s.setAcc 0
  | .csumAdd b => fun s => s.setAcc (s.acc + b)
  | .enc cmd param => Machine.enc cmd param
  | .decd => Machine.decd
  | .decr cmd => Machine.decr cmd
  | .stset code => Machine.stset code
  | .reserved => reservedCode
  | .recover bus => Machine.recover bus
  | .recoverAll => Machine.recoverAll

/-- The core operation of an instruction. -/
def coreOp : Instr → CoreOp
  | .nop => .nop
  | .csumClr => .csumClr
  | .csumAdd b => .csumAdd b
  | .enc cmd param => .enc cmd param
  | .decd => .decd
  | .decr cmd => .decr cmd
  | .stset code => .stset code
  | .recover bus => .recover bus
  | .recoverAll => .recoverAll
  | .reserved9 => .reserved
  | .reserved10 => .reserved
  | .reserved11 => .reserved
  | .reserved12 => .reserved
  | .reserved13 => .reserved
  | .reserved14 => .reserved
  | .reserved15 => .reserved
  | .getFirmwareVersion => .enc 0x00010407 0
  | .getFirmwareVersionFrame _ => .enc 0x00010407 0
  | .softReset => .enc 0x00020405 0
  | .softResetFrame _ => .enc 0x00020405 0
  | .hardReset => .enc 0x00100405 0
  | .hardResetFrame _ => .enc 0x00100405 0
  | .saveSettings => .enc 0x00110405 0
  | .saveSettingsFrame _ => .enc 0x00110405 0
  | .setFrameRate rate => .enc 0x00030606 (rate.setWidth 32)
  | .setFrameRateFrame p0 p1 _ => .enc 0x00030606 (word32 p0 p1 0 0)
  | .setBaudRate baud => .enc 0x00060808 baud
  | .setBaudRateFrame p0 p1 p2 p3 _ => .enc 0x00060808 (word32 p0 p1 p2 p3)
  | .setI2cAddress addr => .enc 0x100B0505 (addr.setWidth 32)
  | .setI2cAddressFrame p0 _ => .enc 0x100B0505 (word32 p0 0 0 0)
  | .i2cFormatCm => .enc 0x01000500 0
  | .i2cFormatCmFrame _ => .enc 0x01000500 0
  | .replyEcho cmd _ _ => .decr cmd
  | .replyVersion cmd _ _ _ _ _ _ _ _ => .decr cmd
  | .replyPassfail cmd _ _ _ _ _ _ => .decr cmd
  | .dataFrame _ _ _ _ _ _ _ _ _ => .decd
  | .stReady => .stset 0
  | .stSerialTimeout => .stset 1
  | .stHeaderNotFound => .stset 2
  | .stChecksumMismatch => .stset 3
  | .stDeviceTimeout => .stset 4
  | .stPass => .stset 5
  | .stFail => .stset 6
  | .stI2cReadError => .stset 7
  | .stI2cWriteError => .stset 8
  | .stI2cLengthError => .stset 9
  | .stWeakSignal => .stset 10
  | .stStrongSignal => .stset 11
  | .stAmbientFlood => .stset 12
  | .stReserved13 => .stset 13
  | .stReserved14 => .stset 14
  | .stReserved15 => .stset 15

/-- What running an instruction does, said once for all of them. -/
theorem exec_eq (i : Instr) (s : State) :
    exec i s = .next (admitted (coreOp i).run (match receivedBytes i with | some bs => s.loadRx bs | none => s)) := by
  cases i <;> rfl

/-! ### The command table (R67) -/

/-- The lookup of a row's own word finds the row. -/
theorem lookup_row (s : State) (hw : s.cfg.wellFormed = true) (row : CmdRow) (hr : row ∈ s.cfg.cmdTable) :
    lookup s.cfg.cmdTable row.word = some row := by
  simp only [Config.wellFormed, Bool.and_eq_true] at hw
  exact find_word _ hw.1 row hr

/-- A word of no row is not found. -/
theorem lookup_none (s : State) (cmd : Word) (h : ∀ row ∈ s.cfg.cmdTable, row.word ≠ cmd) :
    lookup s.cfg.cmdTable cmd = none := by
  simp only [lookup, List.find?_eq_none]
  intro r hr; simpa using h r hr

/-- A row that is found is in the table and has the word. -/
theorem lookup_some (s : State) (cmd : Word) (row : CmdRow) (h : lookup s.cfg.cmdTable cmd = some row) :
    row ∈ s.cfg.cmdTable ∧ row.word = cmd :=
  ⟨List.mem_of_find?_eq_some h, by simpa using List.find?_some h⟩

/-! ### ENC (R100, R102) -/

theorem enc_unknown (cmd param : Word) (s : State) (h : lookup s.cfg.cmdTable cmd = none) :
    enc cmd param s = s.enter.clearFrame.reject := by
  simp [enc, h]

theorem enc_known (cmd param : Word) (s : State) (row : CmdRow) (h : lookup s.cfg.cmdTable cmd = some row) :
    enc cmd param s =
      s.enter.putFrame
        ((frameBuffer row cmd param).set ((byteK 1 cmd).toNat - 1)
          (csum8 ((frameBuffer row cmd param).take ((byteK 1 cmd).toNat - 1))))
        (csum8 ((frameBuffer row cmd param).take ((byteK 1 cmd).toNat - 1)))
        ((byteK 1 cmd).setWidth 4) (byteK 0 cmd) := by
  simp [enc, h]

/-! ### DECD (R130) -/

theorem decd_length (s : State) (h : s.rxlen ≠ 9) : decd s = s.enter.undefFields.fail .i2cReadError := by
  unfold decd; rw [if_pos h]

theorem decd_checksum (s : State) (h : s.rxlen = 9) (hc : csum8 (rxRange s 8) ≠ rxRead s 8) :
    decd s = (s.enter.setAcc (csum8 (rxRange s 8))).undefFields.fail .checksumMismatch := by
  simp [decd, h, hc]

theorem decd_fields (s : State) (h : s.rxlen = 9) (hc : csum8 (rxRange s 8) = rxRead s 8) :
    decd s = decodeFields (s.enter.setAcc (csum8 (rxRange s 8))) := by
  simp [decd, h, hc]

/-! ### DECR (R140) -/

theorem decr_unknown (cmd : Word) (s : State) (h : lookup s.cfg.cmdTable cmd = none) :
    decr cmd s = s.enter.reject := by
  simp [decr, h]

theorem decr_noReply (cmd : Word) (s : State) (row : CmdRow) (h : lookup s.cfg.cmdTable cmd = some row)
    (hk : row.kind = .none) : decr cmd s = s.enter := by
  simp [decr, h, hk]

theorem decr_length (cmd : Word) (s : State) (row : CmdRow) (h : lookup s.cfg.cmdTable cmd = some row)
    (hk : row.kind ≠ .none) (hl : s.rxlen.toNat ≠ (byteK 0 cmd).toNat) :
    decr cmd s = s.enter.fail .i2cReadError := by
  simp [decr, h, hk, hl]

theorem decr_checksum (cmd : Word) (s : State) (row : CmdRow) (h : lookup s.cfg.cmdTable cmd = some row)
    (hk : row.kind ≠ .none) (hl : s.rxlen.toNat = (byteK 0 cmd).toNat)
    (hc : csum8 (rxRange s ((byteK 0 cmd).toNat - 1)) ≠ rxRead s ((byteK 0 cmd).toNat - 1)) :
    decr cmd s = (s.enter.setAcc (csum8 (rxRange s ((byteK 0 cmd).toNat - 1)))).fail .checksumMismatch := by
  simp [decr, h, hk, hl, hc]

theorem decr_payload (cmd : Word) (s : State) (row : CmdRow) (h : lookup s.cfg.cmdTable cmd = some row)
    (hk : row.kind ≠ .none) (hl : s.rxlen.toNat = (byteK 0 cmd).toNat)
    (hc : csum8 (rxRange s ((byteK 0 cmd).toNat - 1)) = rxRead s ((byteK 0 cmd).toNat - 1)) :
    decr cmd s = decodePayload row.kind (s.enter.setAcc (csum8 (rxRange s ((byteK 0 cmd).toNat - 1)))) := by
  simp [decr, h, hk, hl, hc]

/-! ### STSET, RECOVER, RECOVER_ALL (R181, R160, R166) -/

theorem stset_cases (code : Nibble) (s : State) :
    stset code s = s.reject ∨ ∃ st, Status.ofCode code = some st ∧ stset code s = s.record st := by
  unfold stset
  split
  · exact .inl rfl
  · rename_i st h
    exact .inr ⟨st, h, rfl⟩

theorem recover_cases (bus : BitVec 1) (s : State) :
    recover bus s = s.reject ∨
      (s.cfg.hasRecovery = true ∧ busExists s.cfg bus = true ∧
        recover bus s = s.startRecovery (Bus.ofNumber bus) false) := by
  unfold recover
  split
  · exact .inl rfl
  · rename_i h
    split
    · exact .inl rfl
    · rename_i h'
      exact .inr ⟨by simpa using h, by simpa using h', rfl⟩

theorem recoverAll_cases (s : State) :
    recoverAll s = s.reject ∨
      (s.cfg.hasRecovery = true ∧ recoverAll s = s.startRecovery .bus0 (s.cfg.nBuses == .two)) := by
  unfold recoverAll
  split
  · exact .inl rfl
  · rename_i h
    exact .inr ⟨by simpa using h, rfl⟩

/-! ### A step -/

/-- What a step is, by the event it takes; the case split every claim about a step begins with. -/
theorem step_cases (s : State) :
    (s.inbox = [] ∧ step s = .next (tick s)) ∨
    (∃ ev rest, s.inbox = ev :: rest ∧ step s = react ev { s with inbox := rest }) := by
  cases h : s.inbox with
  | nil => exact .inl ⟨rfl, by simp [step, takeEvent, h, react]⟩
  | cons ev rest => exact .inr ⟨ev, rest, rfl, by simp [step, takeEvent, h]⟩

/-- What an item finds when a write coincides with it: one of the two states (R243). -/
theorem seenDuring_cases (w : HostWrite) (s : State) :
    seenDuring w s = { s with draws := s.draws + 1 } ∨ seenDuring w s = { s with draws := s.draws + 1 }.hostWrite w := by
  unfold seenDuring
  split
  · exact .inr rfl
  · exact .inl rfl

/-- What an event does: a refusal only for an item that decodes to nothing. -/
theorem react_cases (ev : HostEvent) (s : State) :
    (∃ r i, ev = .present r ∧ decode r = .ok i ∧ react ev s = raiseDone s.busy (exec i s)) ∨
    (∃ r e, ev = .present r ∧ decode r = .error e ∧ react ev s = .refused (.undecodable e)) ∨
    (∃ w, ev = .write w ∧ react ev s = .next { s.hostWrite w with done := false }) ∨
    (∃ w r, ev = .presentDuring w r ∧ react ev s = landWrite w (react (.present r) (seenDuring w s))) ∨
    (ev = .reset ∧ react ev s = .next s.hwReset) ∨
    (ev = .idle ∧ react ev s = .next (tick s)) := by
  cases ev with
  | present r =>
    cases h : decode r with
    | ok i => exact .inl ⟨r, i, rfl, h, by simp [react, runRequest, h]⟩
    | error e => exact .inr (.inl ⟨r, e, rfl, h, by simp [react, runRequest, h]⟩)
  | write w => exact .inr (.inr (.inl ⟨w, rfl, rfl⟩))
  | presentDuring w r => exact .inr (.inr (.inr (.inl ⟨w, r, rfl, rfl⟩)))
  | reset => exact .inr (.inr (.inr (.inr (.inl ⟨rfl, rfl⟩))))
  | idle => exact .inr (.inr (.inr (.inr (.inr ⟨rfl, rfl⟩))))

/-- Each of the 29 steps has an event (R163). -/
theorem recoveryStep_some (b : Bus) (n : Nat) (h1 : 1 ≤ n) (h2 : n ≤ 29) : ∃ e, recoveryStep b n = some e := by
  interval_cases n <;> exact ⟨_, rfl⟩

/-- What the emission of a step changes: the latches of its bus, and the trace. -/
theorem emitStep_eq (s : State) (e : TraceEntry) (h : recoveryStep s.rbus s.rstep.toNat = some e) :
    s.emitStep = (s.setPins s.rbus ((s.pins s.rbus).apply e.event)).emit e := by
  simp only [State.emitStep, h]

@[simp] theorem emit_pins (s : State) (e : TraceEntry) (b : Bus) : (s.emit e).pins b = s.pins b := by
  cases b <;> rfl

/-- The FSM's sequencing, its three cases (R169). -/
theorem advance_cases (s : State) :
    (s.rstep.toNat < 29 ∧ s.advance = { s with rstep := s.rstep + 1, done := false }) ∨
    (29 ≤ s.rstep.toNat ∧ s.rall = true ∧ s.rbus = .bus0 ∧
      s.advance = { s with rbus := .bus1, rstep := 1, done := false }) ∨
    (29 ≤ s.rstep.toNat ∧ (s.rall = false ∨ s.rbus = .bus1) ∧
      s.advance = { s with rstep := 0, rbus := .bus0, rall := false, busy := false, done := true }) := by
  by_cases h : s.rstep.toNat < 29
  · exact .inl ⟨h, by simp [State.advance, h]⟩
  · by_cases h' : s.rall = true ∧ s.rbus = .bus0
    · exact .inr (.inl ⟨by omega, h'.1, h'.2, by simp [State.advance, h, h']⟩)
    · refine .inr (.inr ⟨by omega, ?_, by simp only [State.advance, if_neg h, if_neg h']⟩)
      cases hb : s.rbus <;> simp_all

/-! ### The checksum (R90, R94) -/

theorem csum8_foldl (l : List Byte) (a : Byte) : l.foldl (fun a b => a + b) a = a + csum8 l := by
  induction l generalizing a with
  | nil => simp [csum8]
  | cons b l ih =>
    simp only [csum8, List.foldl_cons] at ih ⊢
    rw [ih (a + b), ih (0 + b)]
    simp [BitVec.add_assoc]

@[simp] theorem csum8_nil : csum8 [] = 0 := rfl

@[simp] theorem csum8_cons (b : Byte) (l : List Byte) : csum8 (b :: l) = b + csum8 l := by
  rw [show csum8 (b :: l) = l.foldl (fun a b => a + b) (0 + b) from rfl, csum8_foldl]; simp

end Sys2Proof.Machine
end

