-- ==== Sys2Proof/Laws/PerInstr.lean ====
section
/-! SUPPORT. Statements made per instruction: the length of an encoded item is one its format has (30_encoding.md R60,
R63, R66, R70 to R74, R200). -/

namespace Sys2Proof.Laws

/-- The numbers of bytes a format has: the three ports; a command word with its parameter; frames of 4, 5, 6 and 8
bytes; the four bytes of `cmd` and a reply of 2, 7 or 5 bytes at least and 9 at most; nine bytes; one byte. -/
def lengthOk (fmt : Format) (n : Nat) : Prop :=
  match fmt with
  | .op => n = 9
  | .cw => n = 8
  | .cf => n = 4 ∨ n = 5 ∨ n = 6 ∨ n = 8
  | .rfEcho => 6 ≤ n ∧ n ≤ 13
  | .rfVer => 11 ≤ n ∧ n ≤ 13
  | .rfPf => 9 ≤ n ∧ n ≤ 13
  | .df9 => n = 9
  | .st => n = 1

namespace EncodedLength

/-- The encoding of a well-formed instruction has a length its format has. -/
def Statement (i : Instr) : Prop := i.wellFormed = true → lengthOk (encode i).fmt (encode i).bytes.length

theorem nop : Statement .nop := fun _ => rfl

theorem csumClr : Statement .csumClr := fun _ => rfl

theorem csumAdd (b : Byte) : Statement (.csumAdd b) := fun _ => rfl

theorem enc (cmd param : Word) : Statement (.enc cmd param) := fun _ => rfl

theorem decd : Statement .decd := fun _ => rfl

theorem decr (cmd : Word) : Statement (.decr cmd) := fun _ => rfl

theorem stset (code : Nibble) : Statement (.stset code) := fun _ => rfl

theorem recover (bus : BitVec 1) : Statement (.recover bus) := fun _ => rfl

theorem recoverAll : Statement .recoverAll := fun _ => rfl

theorem reserved9 : Statement .reserved9 := fun _ => rfl

theorem reserved10 : Statement .reserved10 := fun _ => rfl

theorem reserved11 : Statement .reserved11 := fun _ => rfl

theorem reserved12 : Statement .reserved12 := fun _ => rfl

theorem reserved13 : Statement .reserved13 := fun _ => rfl

theorem reserved14 : Statement .reserved14 := fun _ => rfl

theorem reserved15 : Statement .reserved15 := fun _ => rfl

theorem getFirmwareVersion : Statement .getFirmwareVersion := fun _ => rfl

theorem getFirmwareVersionFrame (c : Byte) : Statement (.getFirmwareVersionFrame c) := fun _ => .inl rfl

theorem softReset : Statement .softReset := fun _ => rfl

theorem softResetFrame (c : Byte) : Statement (.softResetFrame c) := fun _ => .inl rfl

theorem hardReset : Statement .hardReset := fun _ => rfl

theorem hardResetFrame (c : Byte) : Statement (.hardResetFrame c) := fun _ => .inl rfl

theorem saveSettings : Statement .saveSettings := fun _ => rfl

theorem saveSettingsFrame (c : Byte) : Statement (.saveSettingsFrame c) := fun _ => .inl rfl

theorem setFrameRate (rate : Half) : Statement (.setFrameRate rate) := fun _ => rfl

theorem setFrameRateFrame (p0 p1 c : Byte) : Statement (.setFrameRateFrame p0 p1 c) := fun _ => .inr (.inr (.inl rfl))

theorem setBaudRate (baud : Word) : Statement (.setBaudRate baud) := fun _ => rfl

theorem setBaudRateFrame (p0 p1 p2 p3 c : Byte) : Statement (.setBaudRateFrame p0 p1 p2 p3 c) := fun _ => .inr (.inr (.inr rfl))

theorem setI2cAddress (addr : Byte) : Statement (.setI2cAddress addr) := fun _ => rfl

theorem setI2cAddressFrame (p0 c : Byte) : Statement (.setI2cAddressFrame p0 c) := fun _ => .inr (.inl rfl)

theorem i2cFormatCm : Statement .i2cFormatCm := fun _ => rfl

theorem i2cFormatCmFrame (c : Byte) : Statement (.i2cFormatCmFrame c) := fun _ => .inr (.inl rfl)

theorem replyEcho (cmd : Word) (body : List Byte) (c : Byte) : Statement (.replyEcho cmd body c) := by
  intro h
  simp only [Instr.wellFormed, decide_eq_true_eq] at h
  simp [lengthOk, encode, wordBytes]
  omega

theorem replyVersion (cmd : Word) (x0 x1 x2 patch minor major : Byte) (extra : List Byte) (c : Byte) : Statement (.replyVersion cmd x0 x1 x2 patch minor major extra c) := by
  intro h
  simp only [Instr.wellFormed, decide_eq_true_eq] at h
  simp [lengthOk, encode, wordBytes]
  omega

theorem replyPassfail (cmd : Word) (x0 x1 x2 flag : Byte) (extra : List Byte) (c : Byte) : Statement (.replyPassfail cmd x0 x1 x2 flag extra c) := by
  intro h
  simp only [Instr.wellFormed, decide_eq_true_eq] at h
  simp [lengthOk, encode, wordBytes]
  omega

theorem dataFrame (h0 h1 dl dh fl fh tl th c : Byte) : Statement (.dataFrame h0 h1 dl dh fl fh tl th c) := fun _ => rfl

theorem stReady : Statement .stReady := fun _ => rfl

theorem stSerialTimeout : Statement .stSerialTimeout := fun _ => rfl

theorem stHeaderNotFound : Statement .stHeaderNotFound := fun _ => rfl

theorem stChecksumMismatch : Statement .stChecksumMismatch := fun _ => rfl

theorem stDeviceTimeout : Statement .stDeviceTimeout := fun _ => rfl

theorem stPass : Statement .stPass := fun _ => rfl

theorem stFail : Statement .stFail := fun _ => rfl

theorem stI2cReadError : Statement .stI2cReadError := fun _ => rfl

theorem stI2cWriteError : Statement .stI2cWriteError := fun _ => rfl

theorem stI2cLengthError : Statement .stI2cLengthError := fun _ => rfl

theorem stWeakSignal : Statement .stWeakSignal := fun _ => rfl

theorem stStrongSignal : Statement .stStrongSignal := fun _ => rfl

theorem stAmbientFlood : Statement .stAmbientFlood := fun _ => rfl

theorem stReserved13 : Statement .stReserved13 := fun _ => rfl

theorem stReserved14 : Statement .stReserved14 := fun _ => rfl

theorem stReserved15 : Statement .stReserved15 := fun _ => rfl

end EncodedLength

end Sys2Proof.Laws
end

