-- ==== Sys2Proof/Laws/Pins.lean ====
section
/-! SUPPORT. Laws of the pin-level collaborator: the calls of a trace, and which recovery a pair of pins names. -/

namespace Sys2Proof.Machine

/-- An emitted entry adds its calls to those made so far, and only those (R161). -/
theorem pinCalls_emit (s : State) (e : TraceEntry) : pinCalls (s.emit e) = pinCalls s ++ entryCalls s.cfg e := by
  simp [pinCalls]

/-- The first call of an entry is its event's. -/
theorem entryCalls_head (c : Config) (e : TraceEntry) : (entryCalls c e).head? = some (eventCall c e.event) := by
  unfold entryCalls; split <;> rfl

/-- `recoverBus` of the pair of the primary bus is RECOVER 0 (R81). -/
theorem recoverBus_primary (s : State) : recoverBus (pinsOf s.cfg .bus0) s = some (admitted (recover 0) s) := by
  simp [recoverBus, busOfPins]

/-- `recoverBus` of the pair of the second bus, if it exists and has pins of its own, is RECOVER 1 (R81). -/
theorem recoverBus_second (s : State) (h : s.cfg.nBuses = .two) (hp : pinsOf s.cfg .bus0 ≠ pinsOf s.cfg .bus1) :
    recoverBus (pinsOf s.cfg .bus1) s = some (admitted (recover 1) s) := by
  simp [recoverBus, busOfPins, busExists, h, hp]

end Sys2Proof.Machine
end

