-- ==== Sys2Proof/Laws/Session.lean ====
section
/-! SUPPORT. What each host sequence can end with, one equation a case, over the state `t` that its ENC leaves. -/

namespace Sys2Proof.Machine

/-! ### Commands of the table (R67, R186) -/

/-- Of a well-formed table, the reply to the word of a row is read from the new address exactly for the row named
`SET_I2C_ADDRESS`, whatever its word is. -/
theorem replyAddress_row (s : State) (hw : s.cfg.wellFormed = true) (row : CmdRow) (hr : row ∈ s.cfg.cmdTable)
    (param : Word) (address : Byte) :
    replyAddress s.cfg row.word param address =
      if row.name = "SET_I2C_ADDRESS" then byteK 0 param else address := by
  simp [replyAddress, isAddressChange, lookup_row s hw row hr]

/-- The word found under a name is that of a row of the table with the name. -/
theorem commandWord_some (c : Config) (name : String) (w : Word) (h : commandWord c name = some w) :
    ∃ row ∈ c.cmdTable, row.name = name ∧ row.word = w := by
  obtain ⟨row, hf, rfl⟩ := Option.map_eq_some_iff.1 h
  exact ⟨row, List.mem_of_find?_eq_some hf, by simpa using List.find?_some hf, rfl⟩

/-! ### Reading (R187 to R189) -/

/-- Enough bytes: the first `n` are read, each after a peek. -/
theorem readCalls_full (n : Nat) (available : List Byte) (h : n ≤ available.length) :
    readCalls n available =
      (available.take n).flatMap (fun b => [Call.bus (.byteAvailablePeek true), .bus (.readByte b)]) := by
  induction n generalizing available with
  | zero => simp [readCalls]
  | succ n ih =>
    cases available with
    | nil => simp at h
    | cons b bs => simp [readCalls, ih bs (by simpa using h)]

/-- Too few: all are read, and the peek after them finds none. -/
theorem readCalls_short (n : Nat) (available : List Byte) (h : available.length < n) :
    readCalls n available =
      available.flatMap (fun b => [Call.bus (.byteAvailablePeek true), .bus (.readByte b)]) ++
        [.bus (.byteAvailablePeek false)] := by
  induction n generalizing available with
  | zero => simp at h
  | succ n ih =>
    cases available with
    | nil => simp [readCalls]
    | cons b bs => simp [readCalls, ih bs (by simpa using h)]

/-- Of all the calls of a read, the request alone asks for one. -/
theorem readCalls_noRequest (n : Nat) (available : List Byte) : ∀ c ∈ readCalls n available, requestsRead c = false := by
  induction n generalizing available with
  | zero => simp [readCalls]
  | succ n ih =>
    cases available with
    | nil => simp [readCalls, requestsRead]
    | cons b bs => simpa [readCalls, requestsRead] using ih bs

theorem finishRead_full (r : ReadChoice) (n : Nat) (available : List Byte) (f : State → State) (s : State)
    (h : n ≤ available.length) : finishRead r n available f s = admitted f (s.loadRx (available.take n)) := by
  simp [finishRead, Nat.not_lt.2 h]

/-- The preferred way of R189 is the ordinary one with the bytes that came. -/
theorem finishRead_decode (r : ReadChoice) (n : Nat) (available : List Byte) (f : State → State) (s : State)
    (h : r.short = .decode) : finishRead r n available f s = admitted f (s.loadRx (available.take n)) := by
  simp [finishRead, h]

/-- The way of R81: the status alone. -/
theorem finishRead_record (r : ReadChoice) (n : Nat) (available : List Byte) (f : State → State) (s : State)
    (hs : r.short = .record) (h : available.length < n) :
    finishRead r n available f s = admitted (stset 7) s := by
  simp [finishRead, hs, h]

/-! ### sendCommand (R182 to R186) -/

theorem writeCalls_noRequest (address : Byte) (frame : List Byte) (stop : Bool) (bus : BusAnswer) :
    ∀ c ∈ writeCalls address frame stop bus, requestsRead c = false := by
  simp [writeCalls, requestsRead]

/-- A write releases the bus exactly when its end asks for a stop condition (R195). -/
theorem writeCalls_releases (address : Byte) (frame : List Byte) (stop : Bool) (bus : BusAnswer) :
    (writeCalls address frame stop bus).any releasesBus = stop := by
  simp [writeCalls, releasesBus]

/-- A read releases the bus exactly when its request asks for a stop condition (R195). -/
theorem requestCalls_releases (address : Byte) (n : Nat) (r : ReadChoice) (available : List Byte) :
    (requestCalls address n r available).any releasesBus = r.sendStop := by
  have h : ∀ n available, (readCalls n available).any releasesBus = false := by
    intro n
    induction n with
    | zero => simp [readCalls]
    | succ n ih => intro available; cases available <;> simp [readCalls, releasesBus, ih]
  simp [requestCalls, h, releasesBus]

theorem sendCommand_rejected (cmd param : Word) (address : Byte) (h : HostChoice) (bus : BusAnswer) (s t : State)
    (ht : admitted (enc cmd param) s = t) (hr : t.rej = true) :
    sendCommand cmd param address h bus s = ⟨t, false, []⟩ := by
  subst ht; simp [sendCommand, hr]

/-- R183: a short write, whatever end-write answers. -/
theorem sendCommand_shortWrite (cmd param : Word) (address : Byte) (h : HostChoice) (bus : BusAnswer) (s t : State)
    (ht : admitted (enc cmd param) s = t) (hr : t.rej = false) (ha : bus.accepted < t.txlen.toNat) :
    sendCommand cmd param address h bus s =
      ⟨admitted (stset 9) t, false, writeCalls address (txFrame t) h.writeStop bus⟩ := by
  subst ht; simp [sendCommand, hr, ha]

/-- R183: a failed write. -/
theorem sendCommand_failedWrite (cmd param : Word) (address : Byte) (h : HostChoice) (bus : BusAnswer) (s t : State)
    (ht : admitted (enc cmd param) s = t) (hr : t.rej = false) (ha : t.txlen.toNat ≤ bus.accepted)
    (he : bus.errorCode ≠ 0) :
    sendCommand cmd param address h bus s =
      ⟨admitted (stset 8) t, false, writeCalls address (txFrame t) h.writeStop bus⟩ := by
  subst ht; simp [sendCommand, hr, Nat.not_lt.2 ha, he]

/-- R184: a command without a reply ends with its write. -/
theorem sendCommand_noReply (cmd param : Word) (address : Byte) (h : HostChoice) (bus : BusAnswer) (s t : State)
    (ht : admitted (enc cmd param) s = t) (hr : t.rej = false) (ha : t.txlen.toNat ≤ bus.accepted)
    (he : bus.errorCode = 0) (hp : t.rplen = 0) :
    sendCommand cmd param address h bus s = ⟨t, true, writeCalls address (txFrame t) h.writeStop bus⟩ := by
  subst ht; simp [sendCommand, hr, Nat.not_lt.2 ha, he, hp]

/-- R182, R185, R186: a reply is asked for after the settling time, and the end of its reading decides. -/
theorem sendCommand_reply (cmd param : Word) (address : Byte) (h : HostChoice) (bus : BusAnswer) (s t : State)
    (ht : admitted (enc cmd param) s = t) (hr : t.rej = false) (ha : t.txlen.toNat ≤ bus.accepted)
    (he : bus.errorCode = 0) (hp : t.rplen ≠ 0) :
    sendCommand cmd param address h bus s =
      let u := finishRead h.reply t.rplen.toNat bus.available (decr cmd) t
      ⟨u, u.ok, writeCalls address (txFrame t) h.writeStop bus ++ .settle (settleTime s.cfg) ::
        requestCalls (replyAddress s.cfg cmd param address) t.rplen.toNat h.reply bus.available⟩ := by
  subst ht
  simp [sendCommand, hr, Nat.not_lt.2 ha, he, show ¬(admitted (enc cmd param) s).rplen = 0#8 from hp]

/-! ### getData (R188) -/

theorem getData_noRow (address : Byte) (h : HostChoice) (bus : BusAnswer) (frame : List Byte) (s : State)
    (hc : commandWord s.cfg "I2C_FORMAT_CM" = none) : getData address h bus frame s = ⟨⟨s, false, []⟩, none⟩ := by
  simp [getData, hc]

/-- A format command that fails ends the measurement. -/
theorem getData_failed (address : Byte) (h : HostChoice) (bus : BusAnswer) (frame : List Byte) (s : State) (cmd : Word)
    (hc : commandWord s.cfg "I2C_FORMAT_CM" = some cmd) (e : Exchange)
    (he : sendCommand cmd 0 address h bus s = e) (hf : e.success = false) :
    getData address h bus frame s = ⟨e, none⟩ := by
  unfold getData; simp only [hc, he, hf, Bool.false_eq_true, if_false]

/-- After a format command that succeeds the frame is read. -/
theorem getData_read (address : Byte) (h : HostChoice) (bus : BusAnswer) (frame : List Byte) (s : State) (cmd : Word)
    (hc : commandWord s.cfg "I2C_FORMAT_CM" = some cmd) (e : Exchange)
    (he : sendCommand cmd 0 address h bus s = e) (hf : e.success = true) :
    getData address h bus frame s = readFrame address h.frame frame e := by
  unfold getData; simp only [hc, he, hf, if_true]

end Sys2Proof.Machine
end

