-- ==== Sys2Proof/Tests/Slice0.lean ====
section
/-! SUPPORT. Tests of the model: well-formedness, words written out from the encodings of 30_encoding.md, vectors of
95_test_vectors.md on one step each, and for every obligation with hypotheses a state and operands that meet them. -/

namespace Sys2Proof.Tests

open Sys2Proof.Machine

/-! ### Helpers -/

/-- The next state, if there is one. -/
def nextOf : Result → Option State
  | .next t => some t
  | .fault _ => none
  | .refused _ => none

/-- STATUS, OK, REJ and ACC of the next state. -/
def flagsOf (o : Result) : Option (Status × Bool × Bool × Byte) :=
  (nextOf o).map (fun t => (t.status, t.ok, t.rej, t.acc))

/-- What the host sees of an ENC: the frame cells, TXLEN and RPLEN. -/
def frameOf (o : Result) : Option (List (Option Byte) × Nibble × Byte) :=
  (nextOf o).map (fun t => ((List.range 8).map (Memory.read t.txbuf), t.txlen, t.rplen))

/-- The measurement registers as signed numbers. -/
def fieldsOf (o : Result) : Option (Option Int × Option Int × Option Int × Bool) :=
  (nextOf o).map (fun t => (t.dist.map BitVec.toInt, t.flux.map BitVec.toInt, t.temp.map BitVec.toInt, t.mvalid))

/-- The version registers. -/
def versionOf (o : Result) : Option (Option Version × Bool) := (nextOf o).map (fun t => (t.ver, t.vvalid))

/-- The reset state after `RX <-` the bytes. -/
def received (bytes : List Byte) : State := State.reset.loadRx bytes

/-- The reset state of a block with two buses. -/
def twoBuses : State := { State.reset with cfg := { Config.standard with nBuses := .two } }

/-- The reset state of a block without the FSM. -/
def noFsm : State := { State.reset with cfg := { Config.standard with hasRecovery := false } }

/-- STATUS I2C-write-error, ACC 0x2B (V-S7). -/
def afterWriteError : State := { State.reset with status := .i2cWriteError, acc := 0x2B }

/-- A recovery of bus 0 that has just been accepted. -/
def recovering : State := State.reset.startRecovery .bus0 false

/-- The FSM before step 24 of bus 0 (V-B7 resets one step later). -/
def beforeStep24 : State := { recovering with rstep := 24, pins0 := latchesAfter 23 }

/-- The FSM before the last step of bus 0, bus 1 to follow. -/
def endOfFirstBus : State :=
  { twoBuses.startRecovery .bus0 true with rstep := 29, pins0 := latchesAfter 28 }

/-- The FSM before the last step of bus 1. -/
def endOfSecondBus : State :=
  { twoBuses.startRecovery .bus1 true with rstep := 29, pins1 := latchesAfter 28 }

/-- Stop conditions asked for, and each way with a short frame. -/
def stopping (short : ShortRead) : HostChoice := ⟨true, ⟨true, short⟩, ⟨true, short⟩⟩

/-- Rows of the default table (R68). -/
def versionRow : CmdRow := ⟨"GET_FIRMWARE_VERSION", 0x00010407, 0, .none, .version⟩
def saveRow : CmdRow := ⟨"SAVE_SETTINGS", 0x00110405, 0, .none, .passFail⟩
def rateRow : CmdRow := ⟨"SET_FRAME_RATE", 0x00030606, 2, .ext, .echo⟩
def baudRow : CmdRow := ⟨"SET_BAUD_RATE", 0x00060808, 4, .ext, .echo⟩
def formatRow : CmdRow := ⟨"I2C_FORMAT_CM", 0x01000500, 1, .inline, .none⟩

/-! ### Well-formedness: an ill-formed term for each check -/

theorem test_wf_instructions :
    (Instr.replyEcho 0 [] 0).wellFormed = false ∧
    (Instr.replyEcho 0 (List.replicate 9 0) 0).wellFormed = false ∧
    (Instr.replyVersion 0 0 0 0 0 0 0 [0, 0, 0] 0).wellFormed = false ∧
    (Instr.replyPassfail 0 0 0 0 0 [0, 0, 0, 0, 0] 0).wellFormed = false := by decide

/-- The default table passes R67. -/
theorem test_wf_standard : Config.standard.wellFormed = true := by decide

/-- A table with one row, for the checks of R67. -/
def tableOf (rows : List CmdRow) : Bool := { Config.standard with cmdTable := rows }.wellFormed

/-- R67 (a): the same word twice. -/
theorem test_wf_repeated_word : tableOf [saveRow, saveRow] = false := by decide

/-- R67 (b), R64: the length byte is not 4 plus the width; a width of 3. -/
theorem test_wf_length :
    tableOf [⟨"X", 0x00110505, 0, .none, .passFail⟩] = false ∧
    tableOf [⟨"X", 0x00110705, 3, .ext, .passFail⟩] = false := by decide

/-- R67 (c): a width without a source, an inline parameter of two bytes, an external one of none. -/
theorem test_wf_source :
    tableOf [⟨"X", 0x00030606, 2, .none, .echo⟩] = false ∧
    tableOf [⟨"X", 0x00030606, 2, .inline, .echo⟩] = false ∧
    tableOf [⟨"X", 0x00110405, 0, .ext, .passFail⟩] = false := by decide

/-- R67 (d): a reply length without a reply, a reply without a length. -/
theorem test_wf_reply_kind :
    tableOf [⟨"X", 0x01000505, 1, .inline, .none⟩] = false ∧
    tableOf [⟨"X", 0x00110400, 0, .none, .passFail⟩] = false := by decide

/-- R67 (e): a reply longer than RXBUF, and one too short for its kind. -/
theorem test_wf_reply_length :
    tableOf [⟨"X", 0x0003060A, 2, .ext, .echo⟩] = false ∧
    tableOf [⟨"X", 0x00030601, 2, .ext, .echo⟩] = false ∧
    tableOf [⟨"X", 0x00110404, 0, .none, .passFail⟩] = false ∧
    tableOf [⟨"X", 0x00010406, 0, .none, .version⟩] = false := by decide

/-! ### Decoding: words written out from the encodings -/

/-- R60: the 4-bit operation codes. -/
theorem test_decode_operation_codes :
    decodeTableWord 8 0b0000 = some .nop ∧ decodeTableWord 8 0b0001 = some .csumClr ∧
    decodeTableWord 8 0b0010 = some (.csumAdd 0) ∧ decodeTableWord 8 0b0011 = some (.enc 0 0) ∧
    decodeTableWord 8 0b0100 = some .decd ∧ decodeTableWord 8 0b0101 = some (.decr 0) ∧
    decodeTableWord 8 0b0110 = some (.stset 0) ∧ decodeTableWord 8 0b0111 = some (.recover 0) ∧
    decodeTableWord 8 0b1000 = some .recoverAll :=
  ⟨rfl, rfl, rfl, rfl, rfl, rfl, rfl, rfl, rfl⟩

/-- R62: the reserved operation codes. -/
theorem test_decode_reserved_codes :
    decodeTableWord 8 0b1001 = some .reserved9 ∧ decodeTableWord 8 0b1010 = some .reserved10 ∧
    decodeTableWord 8 0b1011 = some .reserved11 ∧ decodeTableWord 8 0b1100 = some .reserved12 ∧
    decodeTableWord 8 0b1101 = some .reserved13 ∧ decodeTableWord 8 0b1110 = some .reserved14 ∧
    decodeTableWord 8 0b1111 = some .reserved15 :=
  ⟨rfl, rfl, rfl, rfl, rfl, rfl, rfl⟩

/-- R60: operations with their operand ports, `cmd` and then `param`, least significant byte first; the ports bits an
operation does not name are ignored (V-C12, V-S6, V-B5). -/
theorem test_decode_operands :
    decode ⟨.op, [2, 0, 0, 0, 0, 0x34, 0xEF, 0xCD, 0xAB]⟩ = .ok (.csumAdd 0x34) ∧
    decode ⟨.op, [3, 0x06, 0x06, 0x03, 0x00, 0x64, 0x00, 0x34, 0x12]⟩ = .ok (.enc 0x00030606 0x12340064) ∧
    decode ⟨.op, [5, 0x07, 0x04, 0x01, 0x00, 1, 2, 3, 4]⟩ = .ok (.decr 0x00010407) ∧
    decode ⟨.op, [6, 0, 0, 0, 0, 0xF9, 0xFF, 0xFF, 0xFF]⟩ = .ok (.stset 9) ∧
    decode ⟨.op, [7, 0, 0, 0, 0, 0xFE, 0xFF, 0xFF, 0xFF]⟩ = .ok (.recover 0) ∧
    decode ⟨.op, [7, 0, 0, 0, 0, 1, 0, 0, 0]⟩ = .ok (.recover 1) :=
  ⟨rfl, rfl, rfl, rfl, rfl, rfl⟩

/-- R63, R68: the command words, byte 3 the inline parameter, byte 2 the opcode, byte 1 the length, byte 0 the reply. -/
theorem test_decode_command_words :
    decodeTableWord 32 0b00000000000000010000010000000111 = some .getFirmwareVersion ∧
    decodeTableWord 32 0b00000000000000100000010000000101 = some .softReset ∧
    decodeTableWord 32 0b00000000000100000000010000000101 = some .hardReset ∧
    decodeTableWord 32 0b00000000000100010000010000000101 = some .saveSettings ∧
    decodeTableWord 32 0b00000000000000110000011000000110 = some (.setFrameRate 0) ∧
    decodeTableWord 32 0b00000000000001100000100000001000 = some (.setBaudRate 0) ∧
    decodeTableWord 32 0b00010000000010110000010100000101 = some (.setI2cAddress 0) ∧
    decodeTableWord 32 0b00000001000000000000010100000000 = some .i2cFormatCm :=
  ⟨rfl, rfl, rfl, rfl, rfl, rfl, rfl, rfl⟩

/-- The `param` port of a command word: its low 2, 4 and 1 bytes (V-E10, V-E15, V-E17). -/
theorem test_decode_command_parameters :
    decode ⟨.cw, [0x06, 0x06, 0x03, 0x00, 0x34, 0x12, 0xFF, 0xFF]⟩ = .ok (.setFrameRate 0x1234) ∧
    decode ⟨.cw, [0x08, 0x08, 0x06, 0x00, 0x78, 0x56, 0x34, 0x12]⟩ = .ok (.setBaudRate 0x12345678) ∧
    decode ⟨.cw, [0x05, 0x05, 0x0B, 0x10, 0x11, 0xFF, 0xFF, 0xFF]⟩ = .ok (.setI2cAddress 0x11) ∧
    decode ⟨.cw, [0x07, 0x06, 0x03, 0x00, 0, 0, 0, 0]⟩ = .ok (.enc 0x00030607 0) :=
  ⟨rfl, rfl, rfl, rfl⟩

/-- R63: a number with an inline byte of 0x5A that is no command-frame pattern is a command word (log entry 6). -/
theorem test_decode_inline_header_byte :
    decodeTableWord 32 0x5A030606 = some (.enc 0x5A030606 0) ∧
    decodeTableWord 32 0x5A040105 = some (.getFirmwareVersionFrame 0x05) := ⟨rfl, rfl⟩

/-- R66, R110 to R117: the command frames, offset 0 leftmost. -/
theorem test_decode_command_frames :
    decodeTableWord 32 0b01011010000001000000000101011111 = some (.getFirmwareVersionFrame 0x5F) ∧
    decodeTableWord 32 0x5A040260 = some (.softResetFrame 0x60) ∧
    decodeTableWord 32 0x5A04106E = some (.hardResetFrame 0x6E) ∧
    decodeTableWord 32 0x5A04116F = some (.saveSettingsFrame 0x6F) ∧
    decodeTableWord 48 0x5A0603E8034E = some (.setFrameRateFrame 0xE8 0x03 0x4E) ∧
    decodeTableWord 64 0x5A080600C201002B = some (.setBaudRateFrame 0x00 0xC2 0x01 0x00 0x2B) ∧
    decodeTableWord 40 0x5A050B117B = some (.setI2cAddressFrame 0x11 0x7B) ∧
    decodeTableWord 40 0x5A05000160 = some (.i2cFormatCmFrame 0x60) :=
  ⟨rfl, rfl, rfl, rfl, rfl, rfl, rfl, rfl⟩

/-- R71 to R74: the replies, as the table numbers them and presented with their command (V-R1, V-R12, V-R17, V-R18), and
the data frame (V-D1). -/
theorem test_decode_received_frames :
    decodeTableWord 56 0x5A070101020368 = some (.replyVersion 0x00010407 0x5A 0x07 0x01 0x01 0x02 0x03 [] 0x68) ∧
    decodeTableWord 40 0x5A05020061 = some (.replyPassfail 0x00020405 0x5A 0x05 0x02 0x00 [] 0x61) ∧
    decodeTableWord 64 0x5A080700C201002C =
      some (.replyEcho 0x00060808 [0x5A, 0x08, 0x07, 0x00, 0xC2, 0x01, 0x00] 0x2C) ∧
    decode ⟨.rfPf, [0x05, 0x04, 0x11, 0x00, 0x5A, 0x05, 0x11, 0x01, 0x70]⟩ =
      .ok (.replyPassfail 0x00110405 0x5A 0x05 0x11 0x01 [] 0x70) ∧
    decode ⟨.rfEcho, [0x05, 0x05, 0x0B, 0x10, 0x5A, 0x05, 0x0B, 0x11, 0x7B]⟩ =
      .ok (.replyEcho 0x100B0505 [0x5A, 0x05, 0x0B, 0x11] 0x7B) ∧
    decode ⟨.rfVer, [0x09, 0x04, 0x01, 0x00, 1, 2, 3, 4, 5, 6, 7, 8, 36]⟩ =
      .ok (.replyVersion 0x00010409 1 2 3 4 5 6 [7, 8] 36) ∧
    decodeTableWord 72 0x59596400C8001809FF =
      some (.dataFrame 0x59 0x59 0x64 0x00 0xC8 0x00 0x18 0x09 0xFF) :=
  ⟨rfl, rfl, rfl, rfl, rfl, rfl, rfl⟩

/-- R200: the status codes. -/
theorem test_decode_status_codes :
    decode ⟨.st, [0b0000]⟩ = .ok .stReady ∧ decode ⟨.st, [0b0001]⟩ = .ok .stSerialTimeout ∧
    decode ⟨.st, [0b0010]⟩ = .ok .stHeaderNotFound ∧ decode ⟨.st, [0b0011]⟩ = .ok .stChecksumMismatch ∧
    decode ⟨.st, [0b0100]⟩ = .ok .stDeviceTimeout ∧ decode ⟨.st, [0b0101]⟩ = .ok .stPass ∧
    decode ⟨.st, [0b0110]⟩ = .ok .stFail ∧ decode ⟨.st, [0b0111]⟩ = .ok .stI2cReadError ∧
    decode ⟨.st, [0b1000]⟩ = .ok .stI2cWriteError ∧ decode ⟨.st, [0b1001]⟩ = .ok .stI2cLengthError ∧
    decode ⟨.st, [0b1010]⟩ = .ok .stWeakSignal ∧ decode ⟨.st, [0b1011]⟩ = .ok .stStrongSignal ∧
    decode ⟨.st, [0b1100]⟩ = .ok .stAmbientFlood ∧ decode ⟨.st, [0b1101]⟩ = .ok .stReserved13 ∧
    decode ⟨.st, [0b1110]⟩ = .ok .stReserved14 ∧ decode ⟨.st, [0b1111]⟩ = .ok .stReserved15 :=
  ⟨rfl, rfl, rfl, rfl, rfl, rfl, rfl, rfl, rfl, rfl, rfl, rfl, rfl, rfl, rfl, rfl⟩

/-- Items no port can carry are rejected by name. -/
theorem test_decode_rejects :
    decode ⟨.op, [3, 0, 0]⟩ = .error (.badLength .op 3) ∧
    decode ⟨.op, [0x13, 0, 0, 0, 0, 0, 0, 0, 0]⟩ = .error (.opPortTooWide 0x13) ∧
    decode ⟨.st, [0x10]⟩ = .error (.statusPortTooWide 0x10) ∧
    decode ⟨.cf, [0x5B, 4, 1, 0]⟩ = .error .notACommandFrame ∧
    decode ⟨.cf, [0x5A, 4, 1]⟩ = .error (.badLength .cf 3) ∧
    decode ⟨.rfPf, [5, 4, 17, 0, 1, 2, 3, 4]⟩ = .error (.badLength .rfPf 4) ∧
    decode ⟨.df9, [0, 0]⟩ = .error (.badLength .df9 2) :=
  ⟨rfl, rfl, rfl, rfl, rfl, rfl, rfl⟩

/-! ### Checksum (V-C) -/

theorem test_csum8 :
    csum8 [] = 0x00 ∧ csum8 [0x5A, 0x04, 0x01] = 0x5F ∧ csum8 [0xFF, 0x01] = 0x00 ∧
    csum8 [0xFF, 0xFF, 0xFF, 0xFF, 0xFF, 0xFF, 0xFF, 0xFF] = 0xF8 ∧
    csum8 [0x59, 0x59, 0x64, 0x00, 0xC8, 0x00, 0x18, 0x09] = 0xFF := by decide

/-- V-C8. -/
theorem test_csum_clr :
    flagsOf (exec .csumClr { afterWriteError with acc := 0xC7 }) = some (.i2cWriteError, false, false, 0x00) := by decide

/-- V-C10: the carry is lost. -/
theorem test_csum_add_wraps :
    flagsOf (exec (.csumAdd 0xFF) { State.reset with acc := 0xFF }) = some (.ready, false, false, 0xFE) := by decide

/-! ### Encoder (V-E) -/

/-- V-E11: the upper bytes of the parameter are ignored. -/
theorem test_enc_frame_rate :
    frameOf (exec (.enc 0x00030606 0x12340064) State.reset) =
      some ([some 0x5A, some 0x06, some 0x03, some 0x64, some 0x00, some 0xC7, some 0, some 0], 6, 6) := by decide

/-- V-E23. -/
theorem test_enc_unknown_word :
    flagsOf (exec (.enc 0x00030607 100) afterWriteError) = some (.ready, false, true, 0x2B) := by decide

/-- V-E9: the sum wraps. -/
theorem test_set_frame_rate :
    flagsOf (exec (.setFrameRate 0xFFFF) State.reset) = some (.ready, true, false, 0x61) := by decide

/-- V-E15. -/
theorem test_set_baud_rate :
    frameOf (exec (.setBaudRate 0x12345678) State.reset) =
      some ([some 0x5A, some 0x08, some 0x06, some 0x78, some 0x56, some 0x34, some 0x12, some 0x7C], 8, 8) := by decide

/-- V-E20: the inline byte 0x10 of the word is not used. -/
theorem test_set_i2c_address :
    frameOf (exec (.setI2cAddress 0x00) State.reset) =
      some ([some 0x5A, some 0x05, some 0x0B, some 0x00, some 0x6A, some 0, some 0, some 0], 5, 5) := by decide

/-- V-E1 to V-E4, V-E22: the frames of the commands without an external parameter, by their checksum. -/
theorem test_constant_commands :
    flagsOf (exec .getFirmwareVersion State.reset) = some (.ready, true, false, 0x5F) ∧
    flagsOf (exec .softReset State.reset) = some (.ready, true, false, 0x60) ∧
    flagsOf (exec .hardReset State.reset) = some (.ready, true, false, 0x6E) ∧
    flagsOf (exec .saveSettings State.reset) = some (.ready, true, false, 0x6F) ∧
    frameOf (exec .i2cFormatCm State.reset) =
      some ([some 0x5A, some 0x05, some 0x00, some 0x01, some 0x60, some 0, some 0, some 0], 5, 0) := by decide

/-- The command-frame rows, by the checksum the block computes (V-E1 to V-E4, V-E8, V-E13, V-E17, V-E21). -/
theorem test_command_frame_rows :
    flagsOf (exec (.getFirmwareVersionFrame 0) State.reset) = some (.ready, true, false, 0x5F) ∧
    flagsOf (exec (.softResetFrame 0) State.reset) = some (.ready, true, false, 0x60) ∧
    flagsOf (exec (.hardResetFrame 0) State.reset) = some (.ready, true, false, 0x6E) ∧
    flagsOf (exec (.saveSettingsFrame 0) State.reset) = some (.ready, true, false, 0x6F) := by decide

theorem test_command_frame_rows_parameters :
    flagsOf (exec (.setFrameRateFrame 0xE8 0x03 0) State.reset) = some (.ready, true, false, 0x4E) ∧
    flagsOf (exec (.setBaudRateFrame 0x00 0xC2 0x01 0x00 0) State.reset) = some (.ready, true, false, 0x2B) ∧
    flagsOf (exec (.setI2cAddressFrame 0x11 0) State.reset) = some (.ready, true, false, 0x7B) ∧
    flagsOf (exec (.i2cFormatCmFrame 0) State.reset) = some (.ready, true, false, 0x60) := by decide

/-! ### Decoder (V-D, V-R) -/

/-- V-D23: nine bytes are asked for. -/
theorem test_decd_length :
    flagsOf (exec .decd (received [0x59, 0x59, 0x64, 0x00, 0xC8, 0x00, 0x18, 0x09])) =
      some (.i2cReadError, false, false, 0x00) := by decide

/-- V-D11: the temperature shift keeps the sign. -/
theorem test_decd_fields :
    fieldsOf (exec .decd (received [0x59, 0x59, 0xB0, 0x04, 0xFF, 0x7F, 0xFF, 0xFF, 0xE2])) =
      some (some 1200, some 32767, some (-257), true) := by decide

/-- V-D6: flux -1 before distance -4. -/
theorem test_data_frame_priority :
    flagsOf (exec (.dataFrame 0x59 0x59 0xFC 0xFF 0xFF 0xFF 0x00 0x00 0xAB) State.reset) =
      some (.strongSignal, false, false, 0xAB) := by decide

/-- V-D15: the fixture as printed fails. -/
theorem test_data_frame_checksum :
    fieldsOf (exec (.dataFrame 0x59 0x59 0x64 0x00 0xC8 0x00 0x18 0x09 0x0E) State.reset) =
      some (none, none, none, false) := by decide

/-- The temperature values of 2.3, the source's wrong one corrected (S5). -/
theorem test_temperature :
    (convertTemp 0x0FFF).toInt = 255 ∧ (convertTemp 0x0007).toInt = -256 ∧ (convertTemp 0x8000).toInt = -4352 ∧
    (convertTemp 0xFFF7).toInt = -258 := by decide

/-- V-R1. -/
theorem test_decr_version :
    versionOf (exec (.decr 0x00010407) (received [0x5A, 0x07, 0x01, 0x01, 0x02, 0x03, 0x68])) =
      some (some ⟨0x03, 0x02, 0x01⟩, true) := by decide

/-- V-R21. -/
theorem test_decr_unknown_word :
    flagsOf (exec (.decr 0x00030607) afterWriteError) = some (.ready, false, true, 0x2B) := by decide

/-- V-R3: the earlier version stays. -/
theorem test_reply_version_checksum :
    versionOf (exec (.replyVersion 0x00010407 0x5A 0x07 0x01 0x01 0x02 0x03 [] 0x69)
      { State.reset with ver := some ⟨0x02, 0x06, 0x09⟩, vvalid := true }) =
      some (some ⟨0x02, 0x06, 0x09⟩, true) := by decide

/-- V-R9, V-R12: any flag but 0 fails, and only after the checksum. -/
theorem test_reply_passfail :
    flagsOf (exec (.replyPassfail 0x00100405 0x5A 0x05 0x10 0xFF [] 0x6E) State.reset) =
      some (.fail, false, false, 0x6E) ∧
    flagsOf (exec (.replyPassfail 0x00110405 0x5A 0x05 0x11 0x01 [] 0x70) State.reset) =
      some (.checksumMismatch, false, false, 0x71) := by decide

/-- V-R18, V-R19: the length decides before the checksum. -/
theorem test_reply_echo :
    flagsOf (exec (.replyEcho 0x100B0505 [0x5A, 0x05, 0x0B, 0x11] 0x7B) State.reset) =
      some (.ready, true, false, 0x7B) ∧
    flagsOf (exec (.replyEcho 0x100B0505 [0x5A, 0x05, 0x0B, 0x11, 0x7B] 0x00) State.reset) =
      some (.i2cReadError, false, false, 0x00) := by decide

/-! ### NOP, STSET, reserved codes (V-S) -/

/-- V-S1. -/
theorem test_nop : nextOf (exec .nop afterWriteError) = some afterWriteError := by decide

/-- V-S4, V-S5. -/
theorem test_stset :
    flagsOf (exec (.stset 5) State.reset) = some (.pass, false, false, 0x00) ∧
    flagsOf (exec (.stset 13) afterWriteError) = some (.i2cWriteError, false, true, 0x2B) := by decide

/-- R200: each status row writes its own code. -/
theorem test_status_rows :
    [Instr.stReady, .stSerialTimeout, .stHeaderNotFound, .stChecksumMismatch, .stDeviceTimeout, .stPass, .stFail,
      .stI2cReadError, .stI2cWriteError, .stI2cLengthError, .stWeakSignal, .stStrongSignal, .stAmbientFlood].map
      (fun i => (nextOf (exec i State.reset)).map statusPort) =
    [some 0, some 1, some 2, some 3, some 4, some 5, some 6, some 7, some 8, some 9, some 10, some 11, some 12] := by
  decide

/-- V-S5, V-S7, V-S8: reserved status and operation codes. -/
theorem test_reserved_rows :
    [Instr.stReserved13, .stReserved14, .stReserved15, .reserved9, .reserved10, .reserved11, .reserved12, .reserved13,
      .reserved14, .reserved15].map (fun i => flagsOf (exec i afterWriteError)) =
    List.replicate 10 (some (.i2cWriteError, false, true, 0x2B)) := by decide

/-- V-S9: without the FSM codes 7 and 8 are reserved. -/
theorem test_no_fsm :
    nextOf (exec (.recover 0) noFsm) = some { noFsm with rej := true } ∧
    nextOf (exec .recoverAll noFsm) = some { noFsm with rej := true } := by decide

/-! ### Bus recovery (V-B) and the step -/

/-- V-B4: one bus only. -/
theorem test_recover_absent_bus :
    flagsOf (exec (.recover 1) afterWriteError) = some (.i2cWriteError, false, true, 0x2B) := by decide

/-- V-B1: the first event of an accepted recovery. -/
theorem test_recover_first_step :
    (nextOf (step recovering)).map (fun t => (t.trace, t.pins0, t.rstep)) =
      some ([⟨.modeOut .bus0 .sda, .none⟩], ⟨true, true, false, true⟩, 2) := by decide

/-- V-B2: after the first bus comes the second. -/
theorem test_recover_all_second_bus :
    (nextOf (exec .recoverAll twoBuses)).map (fun t => (t.busy, t.rall, t.rbus, t.rstep)) =
      some (true, true, .bus0, 1) ∧
    (nextOf (step endOfFirstBus)).map (fun t => (t.busy, t.rbus, t.rstep, t.done)) = some (true, .bus1, 1, false) ∧
    (nextOf (step endOfSecondBus)).map (fun t => (t.busy, t.rbus, t.rstep, t.done)) =
      some (false, .bus0, 0, true) := by decide

/-- V-B6: an operation presented while a recovery runs is not accepted. -/
theorem test_busy :
    nextOf (step { recovering with inbox := [.present (opRequest 3 0x00030606 100)] }) = some recovering := by decide

/-- V-B7: reset after event 24. -/
theorem test_reset_during_recovery :
    (nextOf (step { beforeStep24 with inbox := [.reset] })).map
      (fun t => (t.pins0, t.busy, t.rstep, t.trace)) = some (⟨false, true, false, true⟩, false, 0, []) := by decide

/-- R161, R163, R5: the calls of the first and the fourth step on a bus whose pins are bound. -/
theorem test_pin_calls :
    [1, 4, 29].map (fun n => (recoveryStep .bus0 n).map
      (entryCalls { Config.standard with pins0 := some ⟨2, 3⟩ })) =
    [some [.pin (.setPinMode 2 true)], some [.pin (.writePin 3 true), .pin (.sleepMicroseconds 5)],
      some [.bus (.reinitialize .bus0)]] := by decide

/-- R81: a pair of pins names the bus that has it. -/
theorem test_bus_of_pins :
    busOfPins { Config.standard with nBuses := .two, pins0 := some ⟨2, 3⟩, pins1 := some ⟨4, 5⟩ } ⟨4, 5⟩ = some 1 ∧
    busOfPins { Config.standard with pins0 := some ⟨2, 3⟩ } ⟨4, 5⟩ = none := by decide

/-- R182, R185, R186: after the settling time the reply to the address change is read from the new address; the second
byte is missing. -/
theorem test_send_command_calls :
    (sendCommand 0x100B0505 0x11 0x10 (stopping .decode) ⟨5, 0, [0x5A]⟩
      { State.reset with cfg := { Config.standard with tSettle := some 7 } }).calls =
    [.bus (.beginWrite 0x10), .bus (.write [0x5A, 0x05, 0x0B, 0x11, 0x7B] 5), .bus (.endWrite true 0), .settle 7,
      .bus (.requestRead 0x11 5 true), .bus (.byteAvailablePeek true), .bus (.readByte 0x5A),
      .bus (.byteAvailablePeek false)] := by decide

/-- A table with other words for the address change and the format command (R67, 93_implementation_defined.md K1). -/
def otherWords : State :=
  { State.reset with cfg := { Config.standard with cmdTable :=
    [⟨"SET_I2C_ADDRESS", 0x100C0505, 1, .ext, .echo⟩, ⟨"I2C_FORMAT_CM", 0x02070500, 1, .inline, .none⟩] } }

/-- R186, R188: the commands are the table's own rows, whatever their words. -/
theorem test_commands_of_another_table :
    otherWords.cfg.wellFormed = true ∧ replyAddress otherWords.cfg 0x100C0505 0x11 0x10 = 0x11 ∧
    replyAddress otherWords.cfg 0x100B0505 0x11 0x10 = 0x10 ∧
    commandWord otherWords.cfg "I2C_FORMAT_CM" = some 0x02070500 := by decide

/-- V-D1's bytes have been measured. -/
def measuredBefore : State := { State.reset with dist := some 100, flux := some 200, temp := some 35, mvalid := true }

/-- R81, R189: the two ways with a short frame; neither gives a value to the caller. -/
theorem test_short_frame :
    (readMeasurement 0x10 (stopping .decode) ⟨5, 0, []⟩ [0x59] measuredBefore).exchange.state.dist =
      some 100 ∧
    (readDistanceOnly 0x10 (stopping .decode) ⟨5, 0, []⟩ [0x59] measuredBefore) = (none, false) ∧
    (getData 0x10 (stopping .decode) ⟨5, 0, []⟩ [0x59] measuredBefore).exchange.state.dist =
      none := by decide

/-- The next step after placing a word of the table runs it: ENC of word 0, rejected. -/
theorem test_with_fetch_word :
    (nextOf (step (State.reset.withFetchWord 8 3))).map (fun t => (t.rej, t.done)) = some (true, true) := by decide

/-! ### The hypotheses of the obligations are met -/

theorem test_witness_DecodeReadsBackEncode :
    (Instr.replyEcho 0x00030606 [1] 2).wellFormed = true ∧
    (Instr.replyEcho 0x00030606 (List.replicate 8 1) 2).wellFormed = true ∧
    (Instr.replyVersion 0x00010407 1 2 3 4 5 6 [7, 8] 9).wellFormed = true ∧
    (Instr.replyPassfail 0x00020405 1 2 3 4 [5, 6, 7, 8] 9).wellFormed = true := by decide

theorem test_witness_DecodedInstructionIsWellFormed : decode ⟨.op, [4, 0, 0, 0, 0, 0, 0, 0, 0]⟩ = .ok .decd := rfl

theorem test_witness_StepRunsPresentedInstruction :
    (presentFirst State.reset (opRequest 4 0 0)).inbox = .present (opRequest 4 0 0) :: [] ∧
    decode (opRequest 4 0 0) = .ok .decd ∧
    exec .decd { presentFirst State.reset (opRequest 4 0 0) with inbox := [] } =
      .next (State.reset.enter.undefFields.fail .i2cReadError) := ⟨rfl, rfl, rfl⟩

theorem test_witness_ResetPutsEveryRegister :
    { beforeStep24 with inbox := [HostEvent.reset] }.inbox = .reset :: [] := rfl

/-- The reset state meets the invariant, and so does a state in the middle of a recovery. -/
theorem test_witness_EveryStepKeepsInvariant :
    State.reset.Inv ∧ (∃ t, step State.reset = .next t) ∧ beforeStep24.Inv ∧ ∃ t, step beforeStep24 = .next t := by
  refine ⟨⟨by decide, .inl ⟨rfl, rfl⟩, ⟨rfl, fun c h => absurd h (List.not_mem_nil)⟩, ⟨rfl, rfl, rfl, rfl⟩,
    fun h => absurd h (by decide), ?_⟩, ⟨_, rfl⟩, ⟨by decide, .inl ⟨rfl, rfl⟩,
    ⟨rfl, fun c h => absurd h (List.not_mem_nil)⟩, ⟨rfl, rfl, rfl, rfl⟩, fun _ => ⟨rfl, rfl⟩, ?_⟩, ⟨_, rfl⟩⟩
  · exact ⟨rfl, rfl, rfl, rfl, rfl⟩
  · exact ⟨rfl, by decide, by decide, rfl, rfl, fun h => absurd h (by decide), fun h => absurd h (by decide)⟩

theorem test_witness_PinsPassiveOutsideRecovery : State.reset.Inv ∧ State.reset.busy = false :=
  ⟨test_witness_EveryStepKeepsInvariant.1, rfl⟩

theorem test_witness_ParametersNeverChange : ∃ t, step { State.reset with inbox := [.reset] } = .next t := ⟨_, rfl⟩

theorem test_witness_BusyAcceptsNothing :
    recovering.busy = true ∧ receivedBytes .decd = none ∧
    (presentFirst recovering (opRequest 4 0 0)).inbox = .present (opRequest 4 0 0) :: [] ∧
    decode (opRequest 4 0 0) = .ok .decd := ⟨rfl, rfl, rfl, rfl⟩

theorem test_witness_ReceivedFrameWhileBusyOnlyLoads :
    recovering.busy = true ∧ receivedBytes (.replyEcho 0x00030606 [1] 1) = some [1, 1] := ⟨rfl, rfl⟩

/-- The boundary codes 12 and 13. -/
theorem test_witness_StsetRecordsOrRejects :
    State.reset.busy = false ∧ (12 : Nibble).toNat ≤ 12 ∧ 12 < (13 : Nibble).toNat := by decide

theorem test_witness_StatusCodesAreRecorded : afterWriteError.busy = false := rfl

/-- The boundary code 9, and a block without the FSM. -/
theorem test_witness_ReservedCodesAreRejected :
    noFsm.busy = false ∧ 9 ≤ (9 : Nibble).toNat ∧ noFsm.cfg.hasRecovery = false ∧ (7 : Nibble) = 7 := by decide

theorem test_witness_ChecksumOperations : afterWriteError.busy = false := rfl

theorem test_witness_ChecksumOfSequence : afterWriteError.busy = false := rfl

/-- A permutation, an offset in range with another byte, and two offsets. -/
theorem test_witness_ChecksumLaws :
    [1, 2].Perm [2, (1 : Byte)] ∧ 0 < [(1 : Byte), 2].length ∧ (3 : Byte) ≠ 1 ∧ 1 < [(1 : Byte), 2].length ∧
    (0 : Nat) ≠ 1 := by decide

theorem test_witness_EncRejectsUnknownWord :
    State.reset.busy = false ∧ ∀ row ∈ State.reset.cfg.cmdTable, row.word ≠ 0x00030607 := by decide

theorem test_witness_EncBuildsFrame :
    State.reset.cfg.wellFormed = true ∧ baudRow ∈ State.reset.cfg.cmdTable ∧ State.reset.busy = false := by decide

theorem test_witness_EncodedFrameRoundTrip :
    State.reset.cfg.wellFormed = true ∧ baudRow ∈ State.reset.cfg.cmdTable ∧ State.reset.busy = false ∧
    (nextOf (exec (.enc baudRow.word 9600) State.reset)).isSome = true ∧ baudRow.psrc = .ext := by decide

theorem test_witness_EncIgnoresHighParameterBytes :
    State.reset.cfg.wellFormed = true ∧ rateRow ∈ State.reset.cfg.cmdTable ∧ State.reset.busy = false ∧
    (0x12340064 : Word).toNat % 2 ^ (8 * rateRow.pw) = (0x00000064 : Word).toNat % 2 ^ (8 * rateRow.pw) := by decide

theorem test_witness_CellsBeyondFrameReadZero :
    State.reset.cfg.wellFormed = true ∧ State.reset.busy = false ∧
    (nextOf (exec (.enc 0x00010407 0) State.reset)).map (fun t => decide (t.txlen.toNat ≤ (4 : BitVec 3).toNat)) =
      some true := by decide

theorem test_witness_ConstantCommandFrames :
    State.reset.cfg.cmdTable = Config.defaultTable ∧ State.reset.busy = false := ⟨rfl, rfl⟩

theorem test_witness_ParameterCommandFrames :
    State.reset.cfg.cmdTable = Config.defaultTable ∧ State.reset.busy = false := ⟨rfl, rfl⟩

theorem test_witness_CommandFrameRowsBuildTheirFrame :
    State.reset.cfg.cmdTable = Config.defaultTable ∧ State.reset.busy = false := ⟨rfl, rfl⟩

/-- The boundary addresses 8 and 9. -/
theorem test_witness_HostWritesReceiveBuffer :
    { State.reset with inbox := [.write (.cell 8 1)] }.inbox = .write (.cell 8 1) :: [] ∧ (8 : Nibble).toNat ≤ 8 ∧
    { State.reset with inbox := [.write (.cell 9 1)] }.inbox = .write (.cell 9 1) :: [] ∧ 8 < (9 : Nibble).toNat ∧
    { State.reset with inbox := [.write (.length 9)] }.inbox = .write (.length 9) :: [] := by decide

/-- Nine bytes fill the buffer; with two, the last is offset 1 and offset 2 lies beyond. -/
theorem test_witness_LoadPlacesReceivedBytes :
    (List.replicate 9 (1 : Byte)).length ≤ 9 ∧ 8 < (List.replicate 9 (1 : Byte)).length ∧
    [(1 : Byte), 2].length ≤ 2 := by decide

theorem test_witness_CoincidingWriteIsSeenOldOrNew :
    { State.reset with inbox := [.presentDuring (.length 9) (opRequest 4 0 0)] }.inbox =
      .presentDuring (.length 9) (opRequest 4 0 0) :: [] ∧ decode (opRequest 4 0 0) = .ok .decd := ⟨rfl, rfl⟩

/-- A length of 8, and nine bytes whose sum is wrong (V-D15). -/
theorem test_witness_DecdFailures :
    (received (List.replicate 8 0)).busy = false ∧ (received (List.replicate 8 0)).rxlen ≠ 9 ∧
    (received [0x59, 0x59, 0x64, 0, 0xC8, 0, 0x18, 0x09, 0x0E]).busy = false ∧
    (received [0x59, 0x59, 0x64, 0, 0xC8, 0, 0x18, 0x09, 0x0E]).rxlen = 9 ∧
    csum8 (rxRange (received [0x59, 0x59, 0x64, 0, 0xC8, 0, 0x18, 0x09, 0x0E]) 8) ≠
      rxRead (received [0x59, 0x59, 0x64, 0, 0xC8, 0, 0x18, 0x09, 0x0E]) 8 := by decide

/-- V-D1. -/
theorem test_witness_DecdMeasurement :
    (received [0x59, 0x59, 0x64, 0, 0xC8, 0, 0x18, 0x09, 0xFF]).busy = false ∧
    (received [0x59, 0x59, 0x64, 0, 0xC8, 0, 0x18, 0x09, 0xFF]).rxlen = 9 ∧
    csum8 (rxRange (received [0x59, 0x59, 0x64, 0, 0xC8, 0, 0x18, 0x09, 0xFF]) 8) =
      rxRead (received [0x59, 0x59, 0x64, 0, 0xC8, 0, 0x18, 0x09, 0xFF]) 8 := by decide

/-- One pair for each clause: -1 and -1, 0 and -1, -4 and 0, 0 and 0. -/
theorem test_witness_ClassificationPriority :
    (0xFFFF : Half).toInt = -1 ∧ (0 : Half).toInt ≠ -1 ∧ (0xFFFC : Half).toInt = -4 ∧ (0 : Half).toInt ≠ -4 := by decide

theorem test_witness_DataFrameIsLoadedAndDecoded :
    State.reset.busy = false ∧ (0xFF : Byte) = csum8 [0x59, 0x59, 0x64, 0, 0xC8, 0, 0x18, 0x09] ∧
    (0x0E : Byte) ≠ csum8 [0x59, 0x59, 0x64, 0, 0xC8, 0, 0x18, 0x09] := by decide

theorem test_witness_DecrRejectsUnknownWord :
    State.reset.busy = false ∧ ∀ row ∈ State.reset.cfg.cmdTable, row.word ≠ 0x00030607 := by decide

theorem test_witness_DecrWithoutReply :
    State.reset.cfg.wellFormed = true ∧ formatRow ∈ State.reset.cfg.cmdTable ∧ formatRow.kind = .none ∧
    State.reset.busy = false := by decide

theorem test_witness_DecrWrongLength :
    State.reset.cfg.wellFormed = true ∧ versionRow ∈ State.reset.cfg.cmdTable ∧ versionRow.kind ≠ .none ∧
    State.reset.busy = false ∧ State.reset.rxlen.toNat ≠ versionRow.rpl ∧ versionRow.kind = .version ∧
    saveRow ∈ State.reset.cfg.cmdTable ∧ saveRow.kind = .passFail := by decide

/-- V-R12. -/
theorem test_witness_DecrWrongChecksum :
    State.reset.cfg.wellFormed = true ∧ saveRow ∈ (received [0x5A, 5, 0x11, 1, 0x70]).cfg.cmdTable ∧
    saveRow.kind ≠ .none ∧ (received [0x5A, 5, 0x11, 1, 0x70]).busy = false ∧
    (received [0x5A, 5, 0x11, 1, 0x70]).rxlen.toNat = saveRow.rpl ∧
    csum8 (rxRange (received [0x5A, 5, 0x11, 1, 0x70]) (saveRow.rpl - 1)) ≠
      rxRead (received [0x5A, 5, 0x11, 1, 0x70]) (saveRow.rpl - 1) := by decide

/-- V-R1 for a version, V-R11 for a flag, V-R14 for an echo. -/
theorem test_witness_DecrDecodesReply :
    State.reset.cfg.wellFormed = true ∧ versionRow ∈ State.reset.cfg.cmdTable ∧ saveRow ∈ State.reset.cfg.cmdTable ∧
    rateRow ∈ State.reset.cfg.cmdTable ∧ versionRow.kind = .version ∧ saveRow.kind = .passFail ∧
    rateRow.kind = .echo ∧
    (received [0x5A, 7, 1, 1, 2, 3, 0x68]).rxlen.toNat = versionRow.rpl ∧
    csum8 (rxRange (received [0x5A, 7, 1, 1, 2, 3, 0x68]) (versionRow.rpl - 1)) =
      rxRead (received [0x5A, 7, 1, 1, 2, 3, 0x68]) (versionRow.rpl - 1) ∧
    (received [0x5A, 5, 0x11, 1, 0x71]).rxlen.toNat = saveRow.rpl ∧
    csum8 (rxRange (received [0x5A, 5, 0x11, 1, 0x71]) (saveRow.rpl - 1)) =
      rxRead (received [0x5A, 5, 0x11, 1, 0x71]) (saveRow.rpl - 1) ∧
    (received [0x5A, 6, 3, 0x64, 0, 0xC7]).rxlen.toNat = rateRow.rpl ∧
    csum8 (rxRange (received [0x5A, 6, 3, 0x64, 0, 0xC7]) (rateRow.rpl - 1)) =
      rxRead (received [0x5A, 6, 3, 0x64, 0, 0xC7]) (rateRow.rpl - 1) := by decide

theorem test_witness_VersionReplyIsDecoded :
    State.reset.cfg.wellFormed = true ∧ versionRow ∈ State.reset.cfg.cmdTable ∧ versionRow.kind = .version ∧
    State.reset.busy = false ∧ ([] : List Byte).length + 7 = versionRow.rpl := by decide

theorem test_witness_PassFailReplyIsDecoded :
    State.reset.cfg.wellFormed = true ∧ saveRow ∈ State.reset.cfg.cmdTable ∧ saveRow.kind = .passFail ∧
    State.reset.busy = false ∧ ([] : List Byte).length + 5 = saveRow.rpl := by decide

theorem test_witness_EchoReplyIsDecoded :
    State.reset.cfg.wellFormed = true ∧ rateRow ∈ State.reset.cfg.cmdTable ∧ rateRow.kind = .echo ∧
    State.reset.busy = false ∧ [(0x5A : Byte), 6, 3, 0x64, 0].length + 1 = rateRow.rpl := by decide

/-- Replies of the smallest and the greatest length, for an unknown word, a command without a reply (V-R20) and each
kind. -/
theorem test_witness_ReplyRowOutcomes :
    (Instr.replyVersion 0x00030607 1 2 3 4 5 6 [] 7).wellFormed = true ∧
    (Instr.replyPassfail formatRow.word 1 2 3 4 [5, 6, 7, 8] 9).wellFormed = true ∧
    (Instr.replyEcho saveRow.word (List.replicate 8 1) 9).wellFormed = true ∧
    (∀ row ∈ State.reset.cfg.cmdTable, row.word ≠ 0x00030607) ∧
    formatRow ∈ State.reset.cfg.cmdTable ∧ formatRow.kind = .none ∧ saveRow ∈ State.reset.cfg.cmdTable ∧
    versionRow ∈ State.reset.cfg.cmdTable ∧ rateRow ∈ State.reset.cfg.cmdTable := by decide

/-- A reply row whose command is of another kind is decoded by the command's kind: a flag that is not 0 (V-R23), an
echo given as a pass/fail reply, a version given as an echo; and a command without a reply (V-R20). -/
theorem test_reply_of_another_kind :
    flagsOf (exec (.replyEcho 0x00020405 [0x5A, 0x05, 0x0B, 0x11] 0x7B) State.reset) =
      some (.fail, false, false, 0x7B) ∧
    flagsOf (exec (.replyPassfail 0x100B0505 0x5A 0x05 0x0B 0x11 [] 0x7B) State.reset) =
      some (.ready, true, false, 0x7B) ∧
    versionOf (exec (.replyEcho 0x00010407 [0x5A, 0x07, 0x01, 0x01, 0x02, 0x03] 0x68) State.reset) =
      some (some ⟨0x03, 0x02, 0x01⟩, true) ∧
    flagsOf (exec (.replyEcho 0x01000500 [0x5A, 0x05, 0x00, 0x01] 0x60) State.reset) =
      some (.ready, true, false, 0x00) := ⟨rfl, rfl, rfl, rfl⟩

/-- V-R1 again, for the second half of the statement; its first half has any instruction that completes. -/
theorem test_witness_VersionRetained :
    (received [0x5A, 7, 1, 1, 2, 3, 0x68]).cfg.wellFormed = true ∧
    versionRow ∈ (received [0x5A, 7, 1, 1, 2, 3, 0x68]).cfg.cmdTable ∧ versionRow.kind = .version ∧
    (received [0x5A, 7, 1, 1, 2, 3, 0x68]).busy = false ∧
    (received [0x5A, 7, 1, 1, 2, 3, 0x68]).rxlen.toNat = versionRow.rpl ∧
    csum8 (rxRange (received [0x5A, 7, 1, 1, 2, 3, 0x68]) (versionRow.rpl - 1)) =
      rxRead (received [0x5A, 7, 1, 1, 2, 3, 0x68]) (versionRow.rpl - 1) ∧
    (nextOf (exec (.decr versionRow.word) (received [0x5A, 7, 1, 1, 2, 3, 0x68]))).isSome = true := by decide

/-- A bus that exists, one that does not, and no FSM. -/
theorem test_witness_RecoverStartsOrRejects :
    State.reset.busy = false ∧ State.reset.cfg.hasRecovery = true ∧ State.reset.cfg.nBuses = .one ∧
    twoBuses.busy = false ∧ twoBuses.cfg.nBuses = .two ∧ noFsm.busy = false ∧ noFsm.cfg.hasRecovery = false := by decide

/-- The three places of the sequence: before step 24, and before the last step of each bus. -/
theorem test_witness_FsmStepFollowsTable :
    beforeStep24.Inv ∧ beforeStep24.busy = true ∧ beforeStep24.inbox = [] ∧ beforeStep24.rstep.toNat < 29 ∧
    endOfFirstBus.Inv ∧ endOfFirstBus.rstep.toNat = 29 ∧ endOfFirstBus.rall = true ∧ endOfFirstBus.rbus = .bus0 ∧
    endOfSecondBus.Inv ∧ endOfSecondBus.rstep.toNat = 29 ∧ endOfSecondBus.rbus = .bus1 := by
  refine ⟨test_witness_EveryStepKeepsInvariant.2.2.1, rfl, rfl, by decide, ?_, rfl, rfl, rfl, ?_, rfl, rfl⟩
  · refine ⟨by decide, .inl ⟨rfl, rfl⟩, ⟨rfl, fun c h => absurd h (List.not_mem_nil)⟩, ⟨rfl, rfl, rfl, rfl⟩,
      fun _ => ⟨rfl, rfl⟩, ?_⟩
    exact ⟨rfl, by decide, by decide, rfl, rfl, fun _ => rfl, fun h => absurd h (by decide)⟩
  · refine ⟨by decide, .inl ⟨rfl, rfl⟩, ⟨rfl, fun c h => absurd h (List.not_mem_nil)⟩, ⟨rfl, rfl, rfl, rfl⟩,
      fun _ => ⟨rfl, rfl⟩, ?_⟩
    exact ⟨rfl, by decide, by decide, rfl, rfl, fun _ => rfl, fun _ => rfl⟩

theorem test_witness_RecoverRunsToItsEnd :
    State.reset.Inv ∧ State.reset.busy = false ∧ State.reset.inbox = [] ∧ State.reset.cfg.hasRecovery = true ∧
    (0 : BitVec 1) = 0 := ⟨test_witness_EveryStepKeepsInvariant.1, rfl, rfl, rfl, rfl⟩

/-- One bus, two buses, and no FSM. -/
theorem test_witness_RecoverAllRunsToItsEnd :
    State.reset.Inv ∧ State.reset.busy = false ∧ State.reset.inbox = [] ∧ State.reset.cfg.hasRecovery = true ∧
    State.reset.cfg.nBuses = .one ∧
    twoBuses.Inv ∧ twoBuses.busy = false ∧ twoBuses.inbox = [] ∧ twoBuses.cfg.hasRecovery = true ∧
    twoBuses.cfg.nBuses = .two ∧ noFsm.busy = false ∧ noFsm.cfg.hasRecovery = false := by
  refine ⟨test_witness_EveryStepKeepsInvariant.1, rfl, rfl, rfl, rfl, ?_, rfl, rfl, rfl, rfl, rfl, rfl⟩
  refine ⟨by decide, .inl ⟨rfl, rfl⟩, ⟨rfl, fun c h => absurd h (List.not_mem_nil)⟩, ⟨rfl, rfl, rfl, rfl⟩,
    fun h => absurd h (by decide), ?_⟩
  exact ⟨rfl, rfl, rfl, rfl, rfl⟩

theorem test_witness_StatusAndChecksumFrames :
    (nextOf (exec (.stset 13) afterWriteError)).isSome = true ∧
    (nextOf (exec (.csumAdd 1) afterWriteError)).isSome = true := by decide

theorem test_witness_EncodeOperationsFrame :
    State.reset.Inv ∧ (∃ t, exec (.enc 0x00030606 100) State.reset = .next t) ∧
    ∃ t, exec (.setI2cAddressFrame 1 0) State.reset = .next t :=
  ⟨test_witness_EveryStepKeepsInvariant.1, ⟨_, rfl⟩, ⟨_, rfl⟩⟩

theorem test_witness_DecodeOperationsFrame :
    (∃ t, exec .decd State.reset = .next t) ∧ ∃ t, exec (.decr 0x00010407) State.reset = .next t := ⟨⟨_, rfl⟩, ⟨_, rfl⟩⟩

/-- An echo of the greatest length, and the data frame. -/
theorem test_witness_ReceivedFramesFrame :
    (Instr.replyEcho 0x00060808 (List.replicate 8 1) 8).wellFormed = true ∧
    receivedBytes (.replyEcho 0x00060808 (List.replicate 8 1) 8) = some (List.replicate 8 1 ++ [8]) ∧
    answersCommand (.replyEcho 0x00060808 (List.replicate 8 1) 8) = some 0x00060808 ∧
    (nextOf (exec (.replyEcho 0x00060808 (List.replicate 8 1) 8) State.reset)).isSome = true ∧
    receivedBytes (.dataFrame 0 0 0 0 0 0 0 0 0) = some (List.replicate 9 0) ∧
    answersCommand (.dataFrame 0 0 0 0 0 0 0 0 0) = none ∧
    (nextOf (exec (.dataFrame 0 0 0 0 0 0 0 0 0) State.reset)).isSome = true := by decide

theorem test_witness_RecoveryFrames :
    (∃ t, exec .recoverAll State.reset = .next t) ∧ recovering.busy = true ∧ recovering.inbox = [] ∧
    (∃ t, step recovering = .next t) ∧ { recovering with inbox := [.idle] }.inbox = .idle :: [] :=
  ⟨⟨_, rfl⟩, rfl, rfl, ⟨_, rfl⟩, rfl⟩

/-- Each clause has an operation that completes; a rejected and an accepted one where the clause tells them apart. -/
theorem test_witness_FinalStatuses :
    flagsOf (exec (.enc 0x00030606 1) State.reset) = some (.ready, true, false, 0x64) ∧
    flagsOf (exec .decd State.reset) = some (.i2cReadError, false, false, 0) ∧
    flagsOf (exec (.decr 0x01000500) State.reset) = some (.ready, true, false, 0) ∧
    flagsOf (exec (.stset 12) State.reset) = some (.ambientFlood, false, false, 0) ∧
    flagsOf (exec (.stset 15) State.reset) = some (.ready, false, true, 0) := ⟨rfl, rfl, rfl, rfl, rfl⟩

theorem test_witness_FinalStatuses_rest :
    State.reset.busy = false ∧
    flagsOf (exec (.recover 0) State.reset) = some (.ready, true, false, 0) ∧
    flagsOf (exec (.recover 1) State.reset) = some (.ready, false, true, 0) ∧
    flagsOf (exec .csumClr State.reset) = some (.ready, false, false, 0) ∧
    flagsOf (exec .reserved9 State.reset) = some (.ready, false, true, 0) := by decide

theorem test_witness_RepeatedOperationsAreIdempotent :
    (∃ t, exec .decd State.reset = .next t) ∧ (∃ t, exec (.enc 0x00030606 1) State.reset = .next t) ∧
    (∃ t, exec (.decr 0x00030606) State.reset = .next t) ∧ ∃ t, exec (.stset 5) State.reset = .next t :=
  ⟨⟨_, rfl⟩, ⟨_, rfl⟩, ⟨_, rfl⟩, ⟨_, rfl⟩⟩

/-- One byte short, and all bytes with an error at the end of the write. -/
theorem test_witness_WriteErrorsEndTheExchange :
    State.reset.cfg.wellFormed = true ∧ rateRow ∈ State.reset.cfg.cmdTable ∧ State.reset.busy = false ∧
    5 < rateRow.len ∧ rateRow.len ≤ 6 ∧
    (sendCommand rateRow.word 100 0x10 (stopping .decode) ⟨5, 1, []⟩ State.reset).state.status = .i2cLengthError ∧
    (sendCommand rateRow.word 100 0x10 (stopping .decode) ⟨6, 1, []⟩ State.reset).state.status = .i2cWriteError := by
  decide

/-- The bytes of V-D1, whose sum is right, of V-D15, whose sum is wrong, and the first eight alone, in both ways. -/
theorem test_witness_GetDataFollowsTheFrame :
    State.reset.cfg.cmdTable = Config.defaultTable ∧ State.reset.busy = false ∧
    (0xFF : Byte) = csum8 [0x59, 0x59, 0x64, 0, 0xC8, 0, 0x18, 0x09] ∧
    (0x0E : Byte) ≠ csum8 [0x59, 0x59, 0x64, 0, 0xC8, 0, 0x18, 0x09] ∧
    [(0x59 : Byte), 0x59, 0x64, 0, 0xC8, 0, 0x18, 0x09].length < 9 ∧
    (stopping .decode).frame.short = .decode ∧ (stopping .record).frame.short = .record := by decide

/-- Each clause: a clean write with V-D1, with V-D15 and with eight bytes; a short write and a failed one. -/
theorem test_witness_GetDataFollowsTheFrame_runs :
    (getData 0x10 (stopping .decode) ⟨5, 0, []⟩ [0x59, 0x59, 0x64, 0, 0xC8, 0, 0x18, 0x09, 0xFF]
      State.reset).values.map (fun m => (m.dist, m.flux, m.temp)) = some (100, 200, 35) ∧
    (getData 0x10 (stopping .decode) ⟨5, 0, []⟩ [0x59, 0x59, 0x64, 0, 0xC8, 0, 0x18, 0x09, 0x0E]
      State.reset).exchange.state.status = .checksumMismatch ∧
    (getData 0x10 (stopping .record) ⟨5, 0, []⟩ [0x59, 0x59, 0x64, 0, 0xC8, 0, 0x18, 0x09]
      State.reset).exchange.state.status = .i2cReadError ∧
    (getData 0x10 (stopping .decode) ⟨4, 0, []⟩ [] State.reset).exchange.state.status = .i2cLengthError ∧
    (getData 0x10 (stopping .decode) ⟨5, 1, []⟩ [] State.reset).exchange.state.status = .i2cWriteError := by decide

end Sys2Proof.Tests
end

section
/-! DECR of a reply that passes its length and its checksum (42_frame_decoder.md R143, R144, R146). -/

namespace Sys2Proof.Machine

/-- A DECR presented to an idle block is accepted (R31). -/
theorem exec_decr_free (cmd : Word) (s : State) (hb : s.busy = false) :
    exec (.decr cmd) s = .next (decr cmd s) := by
  have hadm : exec (.decr cmd) s = .next (admitted (decr cmd) s) := exec_eq (.decr cmd) s
  rw [hadm, admitted_free (decr cmd) s hb]

/-- The lookup finds the row and the two checks pass: what is left of DECR is the kind's own decode (R140). -/
theorem exec_decr_payload (row : CmdRow) (s : State) (hw : s.cfg.wellFormed = true) (hr : row ∈ s.cfg.cmdTable)
    (hk : row.kind ≠ .none) (hb : s.busy = false) (hl : s.rxlen.toNat = row.rpl)
    (hc : csum8 (rxRange s (row.rpl - 1)) = rxRead s (row.rpl - 1)) :
    exec (.decr row.word) s =
      .next (decodePayload row.kind (s.enter.setAcc (csum8 (rxRange s (row.rpl - 1))))) := by
  rw [exec_decr_free _ _ hb, decr_payload row.word s row (lookup_row s hw row hr) hk hl hc]; rfl

/-- The version decode reads the receive buffer, which entering the operation and writing ACC leave alone (R143). -/
theorem decodePayload_version (s : State) (c : Byte) :
    decodePayload .version (s.enter.setAcc c) =
      { s with
        status := .ready, ok := true, rej := false, acc := c,
        ver := some ⟨rxRead s 5, rxRead s 4, rxRead s 3⟩, vvalid := true } := rfl

/-- The flag decides STATUS and OK, and nothing else (R144). -/
theorem decodePayload_passFail (s : State) (c : Byte) :
    decodePayload .passFail (s.enter.setAcc c) =
      { s with
        status := if rxRead s 3 = 0 then .ready else .fail, ok := decide (rxRead s 3 = 0), rej := false,
        acc := c } := by
  have hflag : decodePayload .passFail (s.enter.setAcc c) =
      (s.enter.setAcc c).failIf (passFailTest (rxRead s 3)) := rfl
  rw [hflag, passFailTest]
  by_cases h : rxRead s 3 = 0
  · simp only [if_pos h, decide_eq_true h]; rfl
  · simp only [if_neg h, decide_eq_false h]; rfl

/-- An echo is not looked at (R146). -/
theorem decodePayload_echo (s : State) (c : Byte) :
    decodePayload .echo (s.enter.setAcc c) = { s with status := .ready, ok := true, rej := false, acc := c } := rfl

/-- Settles O42: past the two checks DECR is the decode of the row's kind, and each kind has its equation. -/
theorem decrDecodesReply : Obligations.DecrDecodesReply := by
  intro row s hw hr hk hb hl hc
  rw [exec_decr_payload row s hw hr hk hb hl hc]
  refine ⟨fun h => ?version, fun h => ?passFail, fun h => ?echo⟩
  case version => rw [h, decodePayload_version]
  case passFail => rw [h, decodePayload_passFail]
  case echo => rw [h, decodePayload_echo]

end Sys2Proof.Machine
end

section
/-! The reserved operation codes (30_encoding.md R62). -/

namespace Sys2Proof.Machine

/-- An instruction that loads nothing, presented to an idle block, runs its core operation (R31). -/
theorem exec_free (i : Instr) (s : State) (hn : receivedBytes i = none) (hb : s.busy = false) :
    exec i s = .next ((coreOp i).run s) := by
  rw [exec_eq, hn]
  exact congrArg Host.Outcome.next (admitted_free _ s hb)

/-- The rows of the operation codes 9 to 15 (R62). -/
def reservedRows : List Instr :=
  [.reserved9, .reserved10, .reserved11, .reserved12, .reserved13, .reserved14, .reserved15]

/-- The decoder reads a code from 9 on as a reserved row, whatever the operand ports hold (R62). -/
theorem decodeOp_mem_reservedRows (op : Nibble) (cmd param : Word) (h : 9 ≤ op.toNat) :
    decodeOp op cmd param ∈ reservedRows := by
  have hlt : op.toNat < 16 := op.isLt
  interval_cases hop : op.toNat <;> simp [decodeOp, hop, reservedRows]

/-- Every reserved row is the one operation `reservedCode`, and loads nothing. -/
theorem reservedRows_coreOp (i : Instr) (hi : i ∈ reservedRows) :
    coreOp i = .reserved ∧ receivedBytes i = none := by
  simp only [reservedRows] at hi
  fin_cases hi <;> exact ⟨rfl, rfl⟩

theorem exec_reservedRows (i : Instr) (s : State) (hi : i ∈ reservedRows) (hb : s.busy = false) :
    exec i s = .next s.reject := by
  obtain ⟨hcore, hnone⟩ := reservedRows_coreOp i hi
  rw [exec_free i s hnone hb, hcore]
  rfl

/-- Without the FSM code 7 is a reserved code, for either bus (R62). -/
theorem recover_noFsm (bus : BitVec 1) (s : State) (h : s.cfg.hasRecovery = false) : recover bus s = s.reject :=
  if_pos h

/-- Without the FSM code 8 is a reserved code (R62). -/
theorem recoverAll_noFsm (s : State) (h : s.cfg.hasRecovery = false) : recoverAll s = s.reject :=
  if_pos h

/-- Settles O17: codes 9 to 15 decode to the reserved rows, which reject, and so do both recoveries without the FSM. -/
theorem reservedCodesAreRejected : Obligations.ReservedCodesAreRejected := by
  intro s hb
  refine ⟨fun op cmd param hop => ?codes, fun i hi => exec_reservedRows i s hi hb,
    fun hfsm op cmd param hop => ?noFsm⟩
  case codes => exact exec_reservedRows _ s (decodeOp_mem_reservedRows op cmd param hop) hb
  case noFsm =>
    rcases hop with rfl | rfl
    · exact (exec_free (.recover _) s rfl hb).trans (congrArg _ (recover_noFsm _ s hfsm))
    · exact (exec_free .recoverAll s rfl hb).trans (congrArg _ (recoverAll_noFsm s hfsm))

end Sys2Proof.Machine
end

section
/-! DECD of a data frame that passes its checksum (30_encoding.md R75, 42_frame_decoder.md R133 to R137). -/

namespace Sys2Proof.Machine

/-- The arithmetic shift is floor division, and the difference of R134 stays inside 16 bits. -/
theorem convertTemp_toInt (traw : Half) : (convertTemp traw).toInt = traw.toInt / 8 - 256 := by
  have hshift : (sarHalf traw 3).toInt = traw.toInt / 8 := by
    rw [sarHalf, BitVec.toInt_sshiftRight, Int.shiftRight_eq_div_pow]; rfl
  have hlow := traw.le_toInt
  have hhigh := traw.toInt_lt
  rw [convertTemp, BitVec.toInt_sub, hshift]
  apply Int.bmod_eq_of_le <;> simp <;> omega

theorem convertTemp_eq_ofInt (traw : Half) : convertTemp traw = BitVec.ofInt 16 (traw.toInt / 8 - 256) := by
  rw [← convertTemp_toInt, BitVec.ofInt_toInt]

/-- The classification of R135 by signed values: none for a usable measurement, and otherwise a status that is not
Ready. -/
theorem classify_measurementStatus (d f : Half) :
    (classify d f = none ∧ measurementStatus d.toInt f.toInt = .ready) ∨
    (classify d f = some (measurementStatus d.toInt f.toInt) ∧ measurementStatus d.toInt f.toInt ≠ .ready) := by
  have hminus1 (x : Half) : x.toInt = -1 ↔ x = -1 := BitVec.toInt_inj (y := -1)
  have hminus4 (x : Half) : x.toInt = -4 ↔ x = -4 := BitVec.toInt_inj (y := -4)
  simp only [classify, measurementStatus, hminus1, hminus4]
  split_ifs <;> simp

/-- What DECD writes once its two checks have passed, its entry and ACC included (R133 to R137). -/
theorem decodeFields_entered (s : State) (c : Byte) :
    decodeFields (s.enter.setAcc c) =
      { s with
        acc := c, rej := false, mvalid := true, dist := some (rxDistance s), flux := some (rxFlux s),
        temp := some (convertTemp (rxRawTemp s)),
        status := measurementStatus (rxDistance s).toInt (rxFlux s).toInt,
        ok := decide (measurementStatus (rxDistance s).toInt (rxFlux s).toInt = .ready) } := by
  have hfields : decodeFields (s.enter.setAcc c) =
      ((s.enter.setAcc c).setFields (rxDistance s) (rxFlux s) (convertTemp (rxRawTemp s))).failIf
        (classify (rxDistance s) (rxFlux s)) := rfl
  rw [hfields]
  obtain ⟨hclass, hready⟩ | ⟨hclass, hready⟩ := classify_measurementStatus (rxDistance s) (rxFlux s)
  · rw [hclass, hready]; rfl
  · rw [hclass, decide_eq_false hready]; rfl

/-- Settles O34: the two checks pass, and the field decode has its equation, with the conversion of R134 as a floor. -/
theorem decdMeasurement : Obligations.DecdMeasurement := by
  intro s hb hlen hsum
  have hrun : exec .decd s = .next (decd s) := exec_free .decd s rfl hb
  rw [hrun, decd_fields s hlen hsum, decodeFields_entered, convertTemp_eq_ofInt]
  rfl

end Sys2Proof.Machine
end

section
/-! ENC of a row of the table: the transmit cells in the order of R100 are the frame of 30_encoding.md R66. -/

namespace Sys2Proof.Machine

/-- A byte stored at the first cell after `l` stands behind it, the zeros after it one fewer. -/
theorem set_append_zeros (l : List Byte) (n : Nat) (b : Byte) :
    (l ++ List.replicate (n + 1) 0).set l.length b = l ++ b :: List.replicate n 0 := by
  simp [List.replicate_succ]

/-- The parameter bytes in place behind a three-byte header (R69). -/
theorem putParam_header (h0 h1 h2 : Byte) (param : Word) (pw : Nat) (hpw : pw ≤ 5) :
    putParam pw param ([h0, h1, h2] ++ List.replicate 5 0) =
      [h0, h1, h2] ++ (List.range pw).map (fun j => byteK j param) ++ List.replicate (5 - pw) 0 := by
  induction pw with
  | zero => rfl
  | succ n ih =>
    have hlen : ([h0, h1, h2] ++ (List.range n).map (fun j => byteK j param)).length = 3 + n := by simp; omega
    rw [putParam, ih (by omega), show 5 - n = 4 - n + 1 by omega, ← hlen, set_append_zeros]
    simp [List.range_succ]

section
variable (c : Config) (hw : c.wellFormed = true) (row : CmdRow) (hr : row ∈ c.cmdTable) (param : Word)
include hw hr

/-- A row of a well-formed table has as many parameter bytes as its width says (R67 (c), R69). -/
theorem paramBytes_length : (paramBytes row param).length = row.pw := by
  obtain ⟨-, -, hnone, hinline, -⟩ := CmdRow.facts c hw row hr
  cases hsrc : row.psrc with
  | none => simp [paramBytes, hsrc, hnone.1 hsrc]
  | inline => simp [paramBytes, hsrc, hinline hsrc]
  | ext => simp [paramBytes, hsrc]

/-- The frame without its checksum is one byte shorter than the command length (R64, R66). -/
theorem commandBody_length : (commandBody row param).length + 1 = row.len := by
  obtain ⟨-, hlen, -⟩ := CmdRow.facts c hw row hr
  simp [commandBody, paramBytes_length c hw row hr param, hlen]
  omega

/-- Before the checksum is stored the transmit cells hold the frame's other bytes and zeros (R66, R100). -/
theorem frameBuffer_row :
    frameBuffer row row.word param = commandBody row param ++ List.replicate (5 - row.pw) 0 := by
  obtain ⟨hwidth, -, hnone, hinline, -⟩ := CmdRow.facts c hw row hr
  have hlen : BitVec.ofNat 8 row.len = byteK 1 row.word := by simp [CmdRow.len]
  simp only [frameBuffer, commandBody, paramBytes, hlen]
  cases hsrc : row.psrc with
  | none => rw [hnone.1 hsrc]; rfl
  | inline => rw [hinline hsrc]; rfl
  | ext => exact putParam_header 0x5A (byteK 1 row.word) row.opc param row.pw (by omega)

/-- Storing the checksum at offset `len - 1` completes the frame, zeros after it (R66, R100). -/
theorem frameBuffer_set_checksum (sum : Byte) :
    (frameBuffer row row.word param).set (commandBody row param).length sum =
      padTo8 (commandBody row param ++ [sum]) := by
  obtain ⟨hwidth, hlen, -⟩ := CmdRow.facts c hw row hr
  have hbody := commandBody_length c hw row hr param
  rw [frameBuffer_row c hw row hr, show 5 - row.pw = 4 - row.pw + 1 by omega, set_append_zeros, padTo8,
    List.length_append, List.length_singleton, hbody, show 8 - row.len = 4 - row.pw by omega]
  simp

end

/-- ENC of a row is `encoded` of its frame (R100). -/
theorem enc_row (s : State) (hw : s.cfg.wellFormed = true) (row : CmdRow) (hr : row ∈ s.cfg.cmdTable) (param : Word) :
    enc row.word param s = s.encoded (commandBody row param) (byteK 0 row.word) := by
  have hlen : (byteK 1 row.word).toNat = (commandBody row param).length + 1 :=
    (commandBody_length s.cfg hw row hr param).symm
  have hlen4 : (byteK 1 row.word).setWidth 4 = BitVec.ofNat 4 ((commandBody row param).length + 1) := by
    rw [← hlen, BitVec.ofNat_toNat]
  have htake : (frameBuffer row row.word param).take (commandBody row param).length = commandBody row param := by
    rw [frameBuffer_row s.cfg hw row hr, List.take_left]
  rw [enc_known _ _ s row (lookup_row s hw row hr), hlen, Nat.add_sub_cancel, htake, hlen4,
    frameBuffer_set_checksum s.cfg hw row hr]
  rfl

/-- Settles O23: an idle block accepts the ENC, and the ENC of a row is `encoded` of its frame. -/
theorem encBuildsFrame : Obligations.EncBuildsFrame := by
  intro row param s hw hr hb
  have hrun : exec (.enc row.word param) s = .next (enc row.word param s) := exec_free _ s rfl hb
  rw [hrun, enc_row s hw row hr]

end Sys2Proof.Machine
end

section
/-! The laws of the checksum and the operations of the checksum unit (40_checksum.md R90 to R92, R94). -/

namespace Sys2Proof.Machine

/-! ### The checksum as a sum in the ring of bytes -/

/-- The recurrence of R90 computes the library's sum of a list, in the ring of the numbers modulo 256. -/
theorem csum8_eq_sum (l : List Byte) : csum8 l = l.sum := by
  induction l with
  | nil => rfl
  | cons b l ih => rw [csum8_cons, List.sum_cons, ih]

theorem csum8_append (l m : List Byte) : csum8 (l ++ m) = csum8 l + csum8 m := by
  simp only [csum8_eq_sum, List.sum_append]

theorem csum8_singleton (b : Byte) : csum8 [b] = b := by
  rw [csum8_eq_sum, List.sum_singleton]

/-- A frame of zeros has checksum 0, whatever its length (R94). -/
theorem csum8_zeros (n : Nat) : csum8 (List.replicate n 0) = 0 := by
  rw [csum8_eq_sum, List.sum_replicate, nsmul_zero]

/-- One changed byte changes the checksum by the difference of the bytes (R94). -/
theorem csum8_set (l : List Byte) (k : Nat) (h : k < l.length) (b : Byte) :
    csum8 (l.set k b) = csum8 l + (b - l[k]) := by
  rw [csum8_eq_sum, csum8_eq_sum, List.sum_set', dif_pos h, neg_add_eq_sub]

/-- Reducing after every byte and reducing once at the end give the same (R90). -/
theorem csum8_toNat (l : List Byte) : (csum8 l).toNat = (l.map BitVec.toNat).sum % 256 := by
  induction l with
  | nil => rfl
  | cons b l ih => rw [csum8_cons, BitVec.toNat_add, ih, List.map_cons, List.sum_cons, Nat.add_mod_mod]

/-- Settles O20: a byte appended is a sum of one byte appended, and the number is that of `csum8_toNat`. -/
theorem checksumIsSumModulo256 : Obligations.ChecksumIsSumModulo256 := by
  refine ⟨csum8_nil, fun l b => ?_, csum8_toNat⟩
  rw [csum8_append, csum8_singleton]

/-- A change of one byte to another value is always seen (R94). -/
theorem csum8_set_ne (l : List Byte) (k : Nat) (h : k < l.length) (b : Byte) (hb : b ≠ l[k]) :
    csum8 (l.set k b) ≠ csum8 l := by
  rw [csum8_set l k h b, Ne, add_eq_left]
  exact sub_ne_zero.mpr hb

/-- Two changes that cancel are not seen (R94). -/
theorem csum8_set_set_cancel (l : List Byte) (j k : Nat) (hj : j < l.length) (hk : k < l.length) (d : Byte)
    (hjk : j ≠ k) : csum8 ((l.set j (l[j] + d)).set k (l[k] - d)) = csum8 l := by
  rw [csum8_set _ k (by simpa using hk), List.getElem_set_ne hjk, csum8_set l j hj]
  abel

/-- A frame of zeros of any positive length passes (R94, R95). -/
theorem passesChecksum_zeros (n : Nat) : passesChecksum (List.replicate (n + 1) 0) := by
  rw [List.replicate_succ', passesChecksum, splitLast_append]
  exact csum8_zeros n

/-- Settles O21: each law is one of the sum of a list in a commutative group. -/
theorem checksumLaws : Obligations.ChecksumLaws := by
  refine ⟨fun l m hlm => ?perm, csum8_append, fun l => ?zero, fun l k h b => ⟨csum8_set l k h b, csum8_set_ne l k h b⟩,
    csum8_set_set_cancel, passesChecksum_zeros⟩
  case perm => rw [csum8_eq_sum, csum8_eq_sum, hlm.sum_eq]
  case zero => rw [csum8_append, csum8_singleton, add_zero]

/-! ### The operations of the checksum unit -/

/-- The low byte of a word is its number modulo 256. -/
theorem extractLsb'_low_byte (w : Word) : w.extractLsb' 0 8 = BitVec.ofNat 8 (w.toNat % 256) := by
  apply BitVec.eq_of_toNat_eq
  simp

/-- The sum of two bytes, the carry lost, is the sum of their numbers modulo 256 (R92). -/
theorem add_eq_ofNat_mod (a b : Byte) : a + b = BitVec.ofNat 8 ((a.toNat + b.toNat) % 256) := by
  apply BitVec.eq_of_toNat_eq
  simp

/-- Settles O18: the decoder takes the low byte of `param`, and an idle block runs the write of ACC. -/
theorem checksumOperations : Obligations.ChecksumOperations := by
  refine ⟨fun cmd param => ⟨rfl, ?decode⟩, fun s hb => ⟨exec_free .csumClr s rfl hb, fun b => ?add⟩⟩
  case decode => exact congrArg Instr.csumAdd (extractLsb'_low_byte param)
  case add =>
    rw [← add_eq_ofNat_mod]
    exact exec_free (.csumAdd b) s rfl hb

end Sys2Proof.Machine
end

section
/-! ENC of a word of no row, and the frame the host reads back after ENC of a row (41_frame_encoder.md R102, R104). -/

namespace Sys2Proof.Machine

/-- Settles O22: the lookup finds no row, and that branch of ENC clears the frame and rejects. -/
theorem encRejectsUnknownWord : Obligations.EncRejectsUnknownWord := by
  intro cmd param s hb hword
  have hrun : exec (.enc cmd param) s = .next (enc cmd param s) := exec_free _ s rfl hb
  rw [hrun, enc_unknown cmd param s (lookup_none s cmd hword)]
  rfl

/-! ### Little-endian parameter bytes -/

/-- A byte behind `l` has weight 256 to the number of bytes before it (R47). -/
theorem littleEndian_append_singleton (l : List Byte) (b : Byte) :
    littleEndian (l ++ [b]) = littleEndian l + 256 ^ l.length * b.toNat := by
  induction l with
  | nil => simp [littleEndian]
  | cons a l ih =>
    simp only [List.cons_append, littleEndian, ih, List.length_cons]
    ring

theorem byteK_toNat (k : Nat) (w : Word) : (byteK k w).toNat = w.toNat / 2 ^ (8 * k) % 256 := by
  rw [byteK, BitVec.extractLsb'_toNat, Nat.shiftRight_eq_div_pow]

/-- The low `n` bytes of a word stand for its value modulo 256 to the `n` (R49). -/
theorem littleEndian_map_byteK (n : Nat) (w : Word) :
    littleEndian ((List.range n).map (fun j => byteK j w)) = w.toNat % 2 ^ (8 * n) := by
  induction n with
  | zero => simp [littleEndian, Nat.mod_one]
  | succ n ih =>
    have hpow : 256 ^ n = 2 ^ (8 * n) := by rw [Nat.pow_mul]
    rw [List.range_succ, List.map_append, List.map_singleton, littleEndian_append_singleton, ih, byteK_toNat,
      List.length_map, List.length_range, hpow, show 2 ^ (8 * (n + 1)) = 2 ^ (8 * n) * 256 by ring, Nat.mod_mul]

/-! ### The frame the host reads -/

/-- Cells loaded from offset 0 are what the read port returns, one by one (R41). -/
theorem txRdata_ofBytes (t : State) (cells : List Byte) (ht : t.txbuf = Memory.ofBytes 0 cells) (i : Nat)
    (h8 : i < 8) (hi : i < cells.length) : txRdata t (BitVec.ofNat 3 i) = cells[i] := by
  have hread : Memory.read (Memory.ofBytes 0 cells) i = cells[i]? := by simpa using Memory.read_ofBytes 0 cells i
  rw [txRdata, BitVec.toNat_ofNat, Nat.mod_eq_of_lt (show i < 2 ^ 3 from h8), ht, hread, List.getElem?_eq_getElem hi,
    Option.getD_some]

/-- The host reads back the body ENC stored and its checksum, and none of the zeros after them (R80). -/
theorem txFrame_encoded (s : State) (body : List Byte) (rpl : Byte) (h : body.length + 1 ≤ 8) :
    txFrame (s.encoded body rpl) = body ++ [csum8 body] := by
  have hlen : (s.encoded body rpl).txlen.toNat = body.length + 1 := by
    rw [State.encoded, BitVec.toNat_ofNat, Nat.mod_eq_of_lt (by omega)]
  rw [txFrame, hlen]
  apply List.ext_getElem
  · simp
  · intro i hi hi'
    have hlt : i < body.length + 1 := by simpa using hi'
    have hcells : i < (padTo8 (body ++ [csum8 body])).length := by rw [padTo8, List.length_append]; omega
    rw [List.getElem_map, List.getElem_range, txRdata_ofBytes _ _ rfl i (by omega) hcells]
    exact List.getElem_append_left hi'

/-- After ENC of a row the host reads the command frame of R66. -/
theorem txFrame_enc (row : CmdRow) (param : Word) (s t : State) (hw : s.cfg.wellFormed = true)
    (hr : row ∈ s.cfg.cmdTable) (hb : s.busy = false) (ht : exec (.enc row.word param) s = .next t) :
    txFrame t = commandFrame row param := by
  rw [encBuildsFrame row param s hw hr hb] at ht
  obtain rfl := Host.Outcome.next.inj ht
  obtain ⟨hwidth, hlen, -⟩ := CmdRow.facts s.cfg hw row hr
  have hbody := commandBody_length s.cfg hw row hr param
  exact txFrame_encoded s _ _ (by omega)

/-- A command frame ends in the checksum of its body, so it passes (R66, R95). -/
theorem commandFrame_passesChecksum (row : CmdRow) (param : Word) : passesChecksum (commandFrame row param) := by
  rw [passesChecksum, commandFrame, splitLast_append]

/-- Behind the header stand the external parameter bytes, then the checksum (R66, R69). -/
theorem commandFrame_param (row : CmdRow) (param : Word) (hext : row.psrc = .ext) :
    ((commandFrame row param).drop 3).take row.pw = (List.range row.pw).map (fun j => byteK j param) := by
  have hdrop : (commandFrame row param).drop 3 =
      (List.range row.pw).map (fun j => byteK j param) ++ [csum8 (commandBody row param)] := by
    simp [commandFrame, commandBody, paramBytes, hext]
  rw [hdrop]
  exact List.take_left' (by simp)

/-- Settles O24: the host reads the command frame of the row, whose layout shows every clause. -/
theorem encodedFrameRoundTrip : Obligations.EncodedFrameRoundTrip := by
  intro row param s t hw hr hb ht
  rw [txFrame_enc row param s t hw hr hb ht]
  have hlen : (commandFrame row param).length = row.len := by
    rw [commandFrame, List.length_append, List.length_singleton, commandBody_length s.cfg hw row hr]
  refine ⟨hlen, rfl, ?ownLength, rfl, commandFrame_passesChecksum row param, fun hext => ?parameter⟩
  case ownLength => rw [hlen]; rfl
  case parameter => rw [commandFrame_param row param hext, littleEndian_map_byteK]

end Sys2Proof.Machine
end

section
/-! DECD of a frame that fails a check (42_frame_decoder.md R131, R132), the temperature conversion and the order of the
abnormal values (R134 to R136). -/

namespace Sys2Proof.Machine

/-- Settles O33: an idle block accepts the DECD, which has one equation for each of its two failures. -/
theorem decdFailures : Obligations.DecdFailures := by
  intro s hb
  have hrun : exec .decd s = .next (decd s) := exec_free .decd s rfl hb
  rw [hrun]
  refine ⟨fun hlen => ?length, fun hlen hsum => ?checksum⟩
  case length => rw [decd_length s hlen]; rfl
  case checksum => rw [decd_checksum s hlen hsum]; rfl

/-- Settles O35: the floor is `convertTemp_toInt`, and the range is that of a signed 16-bit code after it. -/
theorem temperatureConversion : Obligations.TemperatureConversion := by
  intro traw
  have hlow : -32768 ≤ traw.toInt := traw.le_toInt
  have hhigh : traw.toInt < 32768 := traw.toInt_lt
  rw [convertTemp_toInt]
  omega

/-- The classification of R135 by the signed values it compares. -/
theorem classify_eq_toInt (d f : Half) :
    classify d f =
      if d.toInt = -1 then some .weakSignal
      else if f.toInt = -1 then some .strongSignal
      else if d.toInt = -4 then some .ambientFlood
      else none := by
  simp only [classify, ← BitVec.toInt_inj]
  rfl

/-- Settles O36: each clause names the branch of the classification it takes; a distance of -4 is not -1. -/
theorem classificationPriority : Obligations.ClassificationPriority := by
  intro d f
  rw [classify_eq_toInt]
  refine ⟨fun hd => if_pos hd, fun hd hf => ?strong, fun hd hf => ?flood, fun hd hd4 hf => ?usable⟩
  case strong => rw [if_neg hd, if_pos hf]
  case flood => rw [if_neg (show d.toInt ≠ -1 by omega), if_neg hf, if_pos hd]
  case usable => rw [if_neg hd, if_neg hf, if_neg hd4]

end Sys2Proof.Machine
end

section
/-! DECR of a command without a reply, and of a reply that fails a check (42_frame_decoder.md R141, R142, R145). -/

namespace Sys2Proof.Machine

/-- Settles O39: the lookup finds the row, and that branch of DECR is the entry alone. -/
theorem decrWithoutReply : Obligations.DecrWithoutReply := by
  intro row s hw hr hk hb
  rw [exec_decr_free _ s hb, decr_noReply row.word s row (lookup_row s hw row hr) hk]
  rfl

/-- A reply has at least one byte before its checksum (R67 (d), (e)). -/
theorem two_le_minReply (k : ReplyKind) (hk : k ≠ .none) : 2 ≤ k.minReply := by
  cases k with
  | none => exact absurd rfl hk
  | echo | passFail | version => simp [ReplyKind.minReply]

/-- Settles O40: the length test comes first, and the bounds are those of a row of a well-formed table. -/
theorem decrWrongLength : Obligations.DecrWrongLength := by
  intro row s hw hr hk hb
  obtain ⟨-, -, -, -, -, hmax, hmin⟩ := CmdRow.facts s.cfg hw row hr
  refine ⟨fun hl => ?fails, (two_le_minReply row.kind hk).trans hmin, hmax, fun hv => ?version, fun hp => ?passFail⟩
  case fails =>
    rw [exec_decr_free _ s hb, decr_length row.word s row (lookup_row s hw row hr) hk hl]
    rfl
  case version => rwa [hv] at hmin
  case passFail => rwa [hp] at hmin

/-- Settles O41: the checksum test comes before the decode of any kind. -/
theorem decrWrongChecksum : Obligations.DecrWrongChecksum := by
  intro row s hw hr hk hb hl hc
  rw [exec_decr_free _ s hb, decr_checksum row.word s row (lookup_row s hw row hr) hk hl hc]
  rfl

end Sys2Proof.Machine
end

section
/-! The version is retained by everything but a version reply that passes (42_frame_decoder.md R143). -/

namespace Sys2Proof.Machine

/-- `t` has the version and VVALID of `s` (R143). -/
def State.SameVersion (s t : State) : Prop := t.ver = s.ver ∧ t.vvalid = s.vvalid

/-- `row` is the Version command of the word `cmd`, and the reply in `RXBUF` has its length and passes its checksum
(R140, R143). -/
structure State.VersionReplyPasses (s : State) (cmd : Word) (row : CmdRow) : Prop where
  mem    : row ∈ s.cfg.cmdTable
  word   : row.word = cmd
  kind   : row.kind = .version
  length : s.rxlen.toNat = row.rpl
  sum    : csum8 (rxRange s (row.rpl - 1)) = rxRead s (row.rpl - 1)

theorem enc_sameVersion (cmd param : Word) (s : State) : s.SameVersion (enc cmd param s) := by
  cases h : lookup s.cfg.cmdTable cmd with
  | none => rw [enc_unknown cmd param s h]; exact ⟨rfl, rfl⟩
  | some row => rw [enc_known cmd param s row h]; exact ⟨rfl, rfl⟩

theorem decd_sameVersion (s : State) : s.SameVersion (decd s) := by
  by_cases hlen : s.rxlen = 9
  · by_cases hsum : csum8 (rxRange s 8) = rxRead s 8
    · rw [decd_fields s hlen hsum, decodeFields_entered]; exact ⟨rfl, rfl⟩
    · rw [decd_checksum s hlen hsum]; exact ⟨rfl, rfl⟩
  · rw [decd_length s hlen]; exact ⟨rfl, rfl⟩

/-- Only the decode of a Version reply writes the version (R143, R144, R146). -/
theorem decodePayload_sameVersion (kind : ReplyKind) (s : State) (hk : kind ≠ .version) :
    s.SameVersion (decodePayload kind s) := by
  cases kind with
  | version => exact absurd rfl hk
  | passFail => exact ⟨State.failIf_ver .., State.failIf_vvalid ..⟩
  | echo | none => exact ⟨rfl, rfl⟩

/-- DECR keeps the version, or a version reply passes and is decoded (R140, R143). -/
theorem decr_version_cases (cmd : Word) (s : State) :
    s.SameVersion (decr cmd s) ∨
    ∃ row c, s.VersionReplyPasses cmd row ∧ decr cmd s = decodePayload .version (s.enter.setAcc c) := by
  cases h : lookup s.cfg.cmdTable cmd with
  | none => rw [decr_unknown cmd s h]; exact .inl ⟨rfl, rfl⟩
  | some row =>
    obtain ⟨hmem, rfl⟩ := lookup_some s cmd row h
    by_cases hnone : row.kind = .none
    · rw [decr_noReply _ s row h hnone]; exact .inl ⟨rfl, rfl⟩
    by_cases hlen : s.rxlen.toNat = row.rpl
    case neg => rw [decr_length _ s row h hnone hlen]; exact .inl ⟨rfl, rfl⟩
    by_cases hsum : csum8 (rxRange s (row.rpl - 1)) = rxRead s (row.rpl - 1)
    case neg => rw [decr_checksum _ s row h hnone hlen hsum]; exact .inl ⟨rfl, rfl⟩
    rw [decr_payload _ s row h hnone hlen hsum]
    by_cases hversion : row.kind = .version
    · rw [hversion]; exact .inr ⟨row, _, ⟨hmem, rfl, hversion, hlen, hsum⟩, rfl⟩
    · exact .inl (decodePayload_sameVersion row.kind _ hversion)

theorem stset_sameVersion (code : Nibble) (s : State) : s.SameVersion (stset code s) := by
  obtain h | ⟨_, -, h⟩ := stset_cases code s <;> rw [h] <;> exact ⟨rfl, rfl⟩

theorem recover_sameVersion (bus : BitVec 1) (s : State) : s.SameVersion (recover bus s) := by
  obtain h | ⟨-, -, h⟩ := recover_cases bus s <;> rw [h] <;> exact ⟨rfl, rfl⟩

theorem recoverAll_sameVersion (s : State) : s.SameVersion (recoverAll s) := by
  obtain h | ⟨-, h⟩ := recoverAll_cases s <;> rw [h] <;> exact ⟨rfl, rfl⟩

/-- Every core operation keeps the version, or is the DECR of a version reply that passes. -/
theorem CoreOp.run_version_cases (op : CoreOp) (s : State) :
    s.SameVersion (op.run s) ∨
    ∃ cmd row c, op = .decr cmd ∧ s.VersionReplyPasses cmd row ∧
      op.run s = decodePayload .version (s.enter.setAcc c) := by
  cases op with
  | decr cmd =>
    obtain hsame | ⟨row, c, hpass, hrun⟩ := decr_version_cases cmd s
    · exact .inl hsame
    · exact .inr ⟨cmd, row, c, rfl, hpass, hrun⟩
  | enc cmd param => exact .inl (enc_sameVersion cmd param s)
  | decd => exact .inl (decd_sameVersion s)
  | stset code => exact .inl (stset_sameVersion code s)
  | recover bus => exact .inl (recover_sameVersion bus s)
  | recoverAll => exact .inl (recoverAll_sameVersion s)
  | nop | csumClr | csumAdd | reserved => exact .inl ⟨rfl, rfl⟩

/-- An instruction whose core operation is a DECR answers that DECR's command. -/
theorem answersCommand_of_coreOp (i : Instr) (cmd : Word) (h : coreOp i = .decr cmd) :
    answersCommand i = some cmd := by
  cases i <;> cases h <;> rfl

/-- An instruction runs its core operation, admitted, on a state that differs from `s` in the receive buffer and its
length at most (R42, R187). -/
theorem exec_next_admitted (i : Instr) (s t : State) (h : exec i s = .next t) :
    ∃ rxbuf rxlen, t = admitted (coreOp i).run { s with rxbuf := rxbuf, rxlen := rxlen } := by
  rw [exec_eq] at h
  obtain rfl := Host.Outcome.next.inj h
  cases receivedBytes i with
  | none => exact ⟨s.rxbuf, s.rxlen, rfl⟩
  | some bs => exact ⟨_, _, congrArg (admitted (coreOp i).run) (s.loadRx_eq bs)⟩

/-- Settles O46: past the load an instruction is turned away or runs its core operation, and that keeps the version
unless it is the DECR of a version reply that passes; such a DECR is O42's. -/
theorem versionRetained : Obligations.VersionRetained := by
  refine ⟨fun i s t ht => ?retained, fun row s hw hr hk hb hl hc => ?written⟩
  case retained =>
    obtain ⟨rxbuf, rxlen, rfl⟩ := exec_next_admitted i s t ht
    obtain ⟨-, hadm⟩ | ⟨-, hadm⟩ := admitted_cases (coreOp i).run { s with rxbuf := rxbuf, rxlen := rxlen }
    · rw [hadm]; exact .inl ⟨rfl, rfl⟩
    rw [hadm]
    obtain hsame | ⟨cmd, row, c, hop, hpass, hrun⟩ := CoreOp.run_version_cases (coreOp i) _
    · exact .inl hsame
    obtain ⟨hmem, hword, hkind, hlen, hsum⟩ := hpass
    rw [hrun, decodePayload_version]
    exact .inr ⟨cmd, row, answersCommand_of_coreOp i cmd hop, hmem, hword, hkind, rfl, rfl, rfl, rfl, hlen, hsum⟩
  case written =>
    have hreply : row.kind ≠ .none := by rw [hk]; decide
    obtain ⟨hversion, -, -⟩ := decrDecodesReply row s hw hr hreply hb hl hc
    exact ⟨_, hversion hk, rfl, rfl⟩

end Sys2Proof.Machine
end

section
/-! RECOVER: the acceptance on a bus that exists, and the rejection (43_bus_recovery.md R160). -/

namespace Sys2Proof.Machine

/-- The primary bus exists in every build, the second one in a build with two (R160). -/
theorem busExists_iff (c : Config) (bus : BitVec 1) : busExists c bus = true ↔ bus = 0 ∨ c.nBuses = .two := by
  simp [busExists]

theorem busExists_second_of_one (c : Config) (h : c.nBuses = .one) : busExists c 1 = false := by
  simp [busExists, h]

theorem recover_starts (bus : BitVec 1) (s : State) (hfsm : s.cfg.hasRecovery = true)
    (hbus : busExists s.cfg bus = true) : recover bus s = s.startRecovery (Bus.ofNumber bus) false := by
  simp [recover, hfsm, hbus]

/-- RECOVER of a bus that does not exist is rejected, with the FSM as a missing bus and without it as a reserved code
(R62, R160). -/
theorem recover_absentBus (bus : BitVec 1) (s : State) (hbus : busExists s.cfg bus = false) :
    recover bus s = s.reject := by
  rw [recover, if_pos hbus, ite_self]

/-- The low bit of a word is its number modulo 2. -/
theorem extractLsb'_low_bit (w : Word) : w.extractLsb' 0 1 = BitVec.ofNat 1 (w.toNat % 2) := by
  apply BitVec.eq_of_toNat_eq
  simp

/-- Settles O47: an idle block runs the recovery's transition, whose tests are the FSM's presence and the bus's. -/
theorem recoverStartsOrRejects : Obligations.RecoverStartsOrRejects := by
  refine ⟨fun cmd param => congrArg Instr.recover (extractLsb'_low_bit param), fun bus s hb => ?_⟩
  have hrun : exec (.recover bus) s = .next (recover bus s) := exec_free (.recover bus) s rfl hb
  rw [hrun]
  refine ⟨fun hfsm hbus => ?starts, fun hbus hone => ?absentBus, fun hfsm => ?absentFsm⟩
  case starts => rw [recover_starts bus s hfsm ((busExists_iff s.cfg bus).2 hbus)]; rfl
  case absentBus => rw [recover_absentBus bus s (hbus ▸ busExists_second_of_one s.cfg hone)]; rfl
  case absentFsm => rw [recover_noFsm bus s hfsm]; rfl

end Sys2Proof.Machine
end

section
/-! One step of the recovery FSM: the row of the table it emits, and where it goes (43_bus_recovery.md R163, R169). -/

namespace Sys2Proof.Machine

/-! ### The step table -/

/-- The table of R163, row by row, is the trace of one recovery (R164). -/
theorem recoveryTrace_getElem? (b : Bus) (n : Nat) (h1 : 1 ≤ n) (h2 : n ≤ 29) :
    (recoveryTrace b)[n - 1]? = recoveryStep b n := by
  interval_cases n <;> rfl

/-- The event of a row takes the latches of the row before to its own (R161, R163). -/
theorem latchesAfter_apply (b : Bus) (n : Nat) (h1 : 1 ≤ n) (h2 : n ≤ 29) (e : TraceEntry)
    (he : recoveryStep b n = some e) : (latchesAfter (n - 1)).apply e.event = latchesAfter n := by
  interval_cases n <;> cases he <;> rfl

/-- While it runs, the FSM emits the row of its step and leaves that row's latches on its bus (R163, R169). -/
theorem emitStep_row (s : State) (hf : s.fsmOk) (hb : s.busy = true) :
    ∃ e, (recoveryTrace s.rbus)[s.rstep.toNat - 1]? = some e ∧
      s.emitStep = (s.setPins s.rbus (latchesAfter s.rstep.toNat)).emit e := by
  rw [State.fsmOk, if_pos hb] at hf
  obtain ⟨-, h1, h29, hpins, -⟩ := hf
  obtain ⟨e, he⟩ := recoveryStep_some s.rbus s.rstep.toNat h1 h29
  refine ⟨e, (recoveryTrace_getElem? _ _ h1 h29).trans he, ?_⟩
  rw [emitStep_eq s e he, hpins, latchesAfter_apply _ _ h1 h29 e he]

theorem Bus.other_ne (b : Bus) : b.other ≠ b := by
  cases b <;> decide

/-! ### The sequencing -/

section
variable (s : State)

/-- The sequencing writes the FSM's registers, BUSY and `done`, and nothing else (R169). -/
theorem State.advance_eq :
    s.advance =
      { s with
        rstep := s.advance.rstep, rbus := s.advance.rbus, rall := s.advance.rall, busy := s.advance.busy,
        done := s.advance.done } := by
  obtain ⟨-, h⟩ | ⟨-, -, -, h⟩ | ⟨-, -, h⟩ := advance_cases s <;> rw [h]

@[simp] theorem State.advance_trace : s.advance.trace = s.trace := by rw [s.advance_eq]
@[simp] theorem State.advance_status : s.advance.status = s.status := by rw [s.advance_eq]
@[simp] theorem State.advance_ok : s.advance.ok = s.ok := by rw [s.advance_eq]
@[simp] theorem State.advance_rej : s.advance.rej = s.rej := by rw [s.advance_eq]
@[simp] theorem State.advance_pins (b : Bus) : s.advance.pins b = s.pins b := by rw [s.advance_eq]; rfl

theorem State.advance_next (h : s.rstep.toNat < 29) : s.advance = { s with rstep := s.rstep + 1, done := false } :=
  if_pos h

theorem State.advance_secondBus (h : s.rstep.toNat = 29) (hall : s.rall = true) (hbus : s.rbus = .bus0) :
    s.advance = { s with rbus := .bus1, rstep := 1, done := false } := by
  rw [State.advance, if_neg (by omega), if_pos ⟨hall, hbus⟩]

theorem State.advance_end (h : s.rstep.toNat = 29) (hlast : s.rall = false ∨ s.rbus = .bus1) :
    s.advance = { s with rstep := 0, rbus := .bus0, rall := false, busy := false, done := true } := by
  rw [State.advance, if_neg (by omega), if_neg]
  rintro ⟨hall, hbus⟩
  simp [hall, hbus] at hlast

/-! ### The step -/

/-- With nothing presented a busy block takes a step of the FSM; an idle event is taken off the inbox (R31, R169). -/
theorem step_fsm (hb : s.busy = true) (hsilent : s.inbox = [] ∨ ∃ rest, s.inbox = .idle :: rest) :
    step s = .next (fsmStep { s with inbox := s.inbox.tail }) := by
  have htick (u : State) (hu : u.busy = true) : tick u = fsmStep u := if_pos hu
  obtain ⟨hnil, hrun⟩ | ⟨ev, rest, hcons, hrun⟩ := step_cases s
  · have htail : s.inbox.tail = s.inbox := by rw [hnil, List.tail_nil]
    rw [hrun, htick s hb, htail]
  · have hidle : ev = .idle := by simpa [hcons] using hsilent
    rw [hrun, hidle, hcons, List.tail_cons]
    exact congrArg _ (htick { s with inbox := rest } hb)

end

/-- Settles O48: the step emits the row of the table and then sequences, which touches neither the latches nor the
status. -/
theorem fsmStepFollowsTable : Obligations.FsmStepFollowsTable := by
  intro s hinv hb hsilent
  obtain ⟨e, hrow, hemit⟩ := emitStep_row { s with inbox := s.inbox.tail } hinv.fsm hb
  refine ⟨_, e, step_fsm s hb hsilent, hrow, ?_⟩
  rw [fsmStep, hemit]
  refine ⟨by simp, by simp, ?otherBus, fun h => ?next, fun h hall hbus => ?secondBus, fun h hlast => ?last, by simp,
    by simp, by simp⟩
  case otherBus =>
    rw [State.advance_pins, emit_pins]
    exact State.setPins_pins_ne _ _ _ _ s.rbus.other_ne
  case next =>
    rw [State.advance_next _ (by simpa using h)]
    have hlt : s.rstep.toNat + 1 < 32 := by omega
    simp [hb, hlt]
  case secondBus =>
    rw [State.advance_secondBus _ (by simpa using h) (by simpa using hall) (by simpa using hbus)]
    simp [hall, hb]
  case last =>
    rw [State.advance_end _ (by simpa using h) (by simpa using hlast)]
    simp

end Sys2Proof.Machine
end

section
/-! STSET and NOP (44_session_contract.md R180, R181), with the status codes that STSET looks up (60_exceptions.md R200,
R201). -/

namespace Sys2Proof.Machine

/-! ### The status codes -/

/-- The codes of no status are those above 12 (R201). -/
theorem ofCode_eq_none_iff (code : Nibble) : Status.ofCode code = none ↔ 12 < code.toNat := by
  revert code; decide

/-- The status of a code has that code (R200). -/
theorem code_of_ofCode (code : Nibble) (st : Status) (h : Status.ofCode code = some st) : st.code = code := by
  revert code st; decide

/-- Ready is the status of code 0 and of no other (R200). -/
theorem beq_ready_eq_code (st : Status) : (st == .ready) = decide (st.code = 0) := by
  cases st <;> rfl

/-! ### STSET and NOP -/

theorem stset_reserved (code : Nibble) (s : State) (h : 12 < code.toNat) : stset code s = s.reject := by
  rw [stset, (ofCode_eq_none_iff code).2 h]

/-- A code up to 12 is recorded as the status that has it (R181). -/
theorem stset_recorded (code : Nibble) (s : State) (h : code.toNat ≤ 12) :
    ∃ st, st.code = code ∧ stset code s = s.record st := by
  have hsome : Status.ofCode code ≠ none := fun hnone => absurd ((ofCode_eq_none_iff code).1 hnone) (by omega)
  obtain ⟨st, hst⟩ := Option.ne_none_iff_exists'.1 hsome
  exact ⟨st, code_of_ofCode code st hst, by rw [stset, hst]⟩

/-- `OK` is 1 after a recording of Ready, the status of code 0, and of no other (R181). -/
theorem record_eq_of_code (s : State) (code : Nibble) (st : Status) (h : st.code = code) :
    s.record st = { s with status := st, ok := decide (code = 0), rej := false } := by
  rw [State.record, beq_ready_eq_code, h]

/-- The low four bits of a word are its number modulo 16. -/
theorem extractLsb'_low_nibble (w : Word) : w.extractLsb' 0 4 = BitVec.ofNat 4 (w.toNat % 16) := by
  apply BitVec.eq_of_toNat_eq
  simp

/-- Settles O15: an idle block runs STSET, which records the status of its code if a status has it and rejects if none
has. -/
theorem stsetRecordsOrRejects : Obligations.StsetRecordsOrRejects := by
  refine ⟨fun cmd param => congrArg Instr.stset (extractLsb'_low_nibble param), fun code s hb => ?_⟩
  have hrun : exec (.stset code) s = .next (stset code s) := exec_free (.stset code) s rfl hb
  rw [hrun]
  refine ⟨fun hle => ?recorded, fun hgt => ?reserved⟩
  case recorded =>
    obtain ⟨st, hcode, hst⟩ := stset_recorded code s hle
    exact ⟨st, hcode, by rw [hst, record_eq_of_code s code st hcode]⟩
  case reserved => rw [stset_reserved code s hgt]; rfl

/-- Settles O13: NOP's transition keeps the state, and a busy block, which turns it away, keeps the state too. -/
theorem nopKeepsEveryRegister : Obligations.NopKeepsEveryRegister := by
  refine ⟨fun _ _ => rfl, fun s => ?_⟩
  have hrun : exec .nop s = .next (admitted (fun t => t) s) := exec_eq .nop s
  rw [hrun]
  obtain ⟨-, hkept⟩ | ⟨-, hkept⟩ := admitted_cases (fun t => t) s <;> rw [hkept]

end Sys2Proof.Machine
end

section
/-! The statuses, `OK` and `REJ` each operation can end with (60_exceptions.md R202). -/

namespace Sys2Proof.Machine

/-- ENC ends Ready, and fails only by a rejection (R100, R102). -/
theorem enc_finalStatus (cmd param : Word) (s : State) :
    (enc cmd param s).status = .ready ∧ (enc cmd param s).ok = !(enc cmd param s).rej := by
  cases h : lookup s.cfg.cmdTable cmd with
  | none => rw [enc_unknown cmd param s h]; exact ⟨rfl, rfl⟩
  | some row => rw [enc_known cmd param s row h]; exact ⟨rfl, rfl⟩

/-- A measurement is usable, or it has one of the three abnormal values of R135. -/
theorem measurementStatus_mem (d f : Int) :
    measurementStatus d f ∈ [Status.ready, .weakSignal, .strongSignal, .ambientFlood] := by
  unfold measurementStatus
  split_ifs <;> decide

/-- DECD ends in a failed check's status or in the status of the measurement, and is never rejected (R130). -/
theorem decd_finalStatus (s : State) :
    (decd s).status ∈
        [Status.ready, .checksumMismatch, .i2cReadError, .weakSignal, .strongSignal, .ambientFlood] ∧
      ((decd s).ok = true ↔ (decd s).status = .ready) ∧ (decd s).rej = false := by
  by_cases hlen : s.rxlen = 9
  case neg => rw [decd_length s hlen]; simp
  by_cases hsum : csum8 (rxRange s 8) = rxRead s 8
  case neg => rw [decd_checksum s hlen hsum]; simp
  have hlisted : [Status.ready, .weakSignal, .strongSignal, .ambientFlood] ⊆
      [Status.ready, .checksumMismatch, .i2cReadError, .weakSignal, .strongSignal, .ambientFlood] := by decide
  rw [decd_fields s hlen hsum, decodeFields_entered]
  exact ⟨hlisted (measurementStatus_mem _ _), decide_eq_true_iff, rfl⟩

/-- The decode of a reply that passes its checks ends in Ready or, by its flag, in Fail, and is not rejected (R143, R144,
R146). -/
theorem decodePayload_finalStatus (kind : ReplyKind) (s : State) (c : Byte) :
    (decodePayload kind (s.enter.setAcc c)).status ∈ [Status.ready, .fail] ∧
      ((decodePayload kind (s.enter.setAcc c)).ok = true ↔
        (decodePayload kind (s.enter.setAcc c)).status = .ready) ∧
      (decodePayload kind (s.enter.setAcc c)).rej = false := by
  cases kind with
  | passFail =>
    rw [decodePayload_passFail]
    by_cases hflag : rxRead s 3 = 0
    · rw [if_pos hflag, decide_eq_true hflag]; simp
    · rw [if_neg hflag, decide_eq_false hflag]; simp
  | version => rw [decodePayload_version]; simp
  | echo | none => simp [decodePayload]

/-- DECR ends in Ready, in a failed check's status or in Fail; a rejection leaves Ready with `OK` 0 (R140). -/
theorem decr_finalStatus (cmd : Word) (s : State) :
    (decr cmd s).status ∈ [Status.ready, .checksumMismatch, .i2cReadError, .fail] ∧
      ((decr cmd s).ok = true ↔ (decr cmd s).status = .ready ∧ (decr cmd s).rej = false) := by
  cases h : lookup s.cfg.cmdTable cmd with
  | none => rw [decr_unknown cmd s h]; simp
  | some row =>
    by_cases hnone : row.kind = .none
    · rw [decr_noReply cmd s row h hnone]; simp
    by_cases hlen : s.rxlen.toNat = (byteK 0 cmd).toNat
    case neg => rw [decr_length cmd s row h hnone hlen]; simp
    by_cases hsum : csum8 (rxRange s ((byteK 0 cmd).toNat - 1)) = rxRead s ((byteK 0 cmd).toNat - 1)
    case neg => rw [decr_checksum cmd s row h hnone hlen hsum]; simp
    rw [decr_payload cmd s row h hnone hlen hsum]
    obtain ⟨hstatus, hok, hrej⟩ := decodePayload_finalStatus row.kind s _
    have hlisted : [Status.ready, .fail] ⊆ [Status.ready, .checksumMismatch, .i2cReadError, .fail] := by decide
    exact ⟨hlisted hstatus, by rw [hok, hrej]; simp⟩

/-- STSET records its code, or rejects a code of no status and keeps STATUS (R181). -/
theorem stset_finalStatus (code : Nibble) (s : State) :
    ((stset code s).ok = true ↔ code = 0) ∧
      ((stset code s).rej = true → (stset code s).status = s.status ∧ (stset code s).ok = false) ∧
      ((stset code s).rej = false → (stset code s).status.code = code) := by
  by_cases hle : code.toNat ≤ 12
  · obtain ⟨st, hcode, hst⟩ := stset_recorded code s hle
    rw [hst, record_eq_of_code s code st hcode]
    simp [hcode]
  · have hne : code ≠ 0 := by rintro rfl; simp at hle
    rw [stset_reserved code s (by omega)]
    exact ⟨by simpa using hne, fun _ => ⟨rfl, rfl⟩, nofun⟩

/-- A recovery is rejected and keeps STATUS, or starts with Ready (R160, R166). -/
theorem recovery_finalStatus (s t : State)
    (h : t = s.reject ∨ ∃ b all, t = s.startRecovery b all) :
    (t.rej = false → t.status = .ready ∧ t.ok = true) ∧ (t.rej = true → t.status = s.status ∧ t.ok = false) := by
  obtain rfl | ⟨b, all, rfl⟩ := h <;> simp

/-- An idle block answers an instruction that loads nothing with the state its core operation leaves (R31). -/
theorem eq_run_of_exec_next (i : Instr) (s t : State) (hn : receivedBytes i = none) (hb : s.busy = false)
    (ht : exec i s = .next t) : t = (coreOp i).run s :=
  (Host.Outcome.next.inj ((exec_free i s hn hb).symm.trans ht)).symm

/-- Settles O57: an idle block runs the operation, and each operation has its lemma. -/
theorem finalStatuses : Obligations.FinalStatuses := by
  intro s t hb
  refine ⟨fun cmd param ht => ?enc, fun ht => ?decd, fun cmd ht => ?decr, fun code ht => ?stset,
    fun i hi ht => ?recovery, fun i hi ht => ?kept, fun i hi ht => ?reserved⟩
  case enc => obtain rfl := eq_run_of_exec_next _ s t rfl hb ht; exact enc_finalStatus cmd param s
  case decd => obtain rfl := eq_run_of_exec_next _ s t rfl hb ht; exact decd_finalStatus s
  case decr => obtain rfl := eq_run_of_exec_next _ s t rfl hb ht; exact decr_finalStatus cmd s
  case stset => obtain rfl := eq_run_of_exec_next _ s t rfl hb ht; exact stset_finalStatus code s
  case recovery =>
    apply recovery_finalStatus
    obtain rfl | ⟨bus, rfl⟩ := hi
    · obtain rfl := eq_run_of_exec_next _ s t rfl hb ht
      exact (recoverAll_cases s).imp_right fun ⟨_, h⟩ => ⟨_, _, h⟩
    · obtain rfl := eq_run_of_exec_next _ s t rfl hb ht
      exact (recover_cases bus s).imp_right fun ⟨_, _, h⟩ => ⟨_, _, h⟩
  case kept =>
    obtain rfl | rfl | ⟨b, rfl⟩ := hi <;> obtain rfl := eq_run_of_exec_next _ s t rfl hb ht <;>
      exact ⟨rfl, rfl, rfl⟩
  case reserved =>
    rw [exec_reservedRows i s hi hb] at ht
    obtain rfl := Host.Outcome.next.inj ht
    exact ⟨rfl, rfl, rfl⟩

end Sys2Proof.Machine
end

section
/-! Reset of the block, in any state (70_reset_and_hazards.md R230, R232). -/

namespace Sys2Proof.Machine

/-- An asserted `rst` is taken off the inbox and resets the rest, whether or not a recovery runs (R230, R232). -/
theorem step_reset (s : State) (rest : List HostEvent) (h : s.inbox = .reset :: rest) :
    step s = .next { s with inbox := rest }.hwReset := by
  obtain ⟨hnil, -⟩ | ⟨ev, rest', hcons, hrun⟩ := step_cases s
  · rw [h] at hnil
    cases hnil
  · rw [h] at hcons
    obtain ⟨rfl, rfl⟩ := List.cons.inj hcons
    exact hrun

/-- A memory with no cell listed holds no byte. -/
@[simp] theorem Memory.read_nil (a : Nat) : Memory.read [] a = none := rfl

/-- Reset puts the latches of either bus at their idle values. -/
@[simp] theorem State.hwReset_pins (s : State) (b : Bus) : s.hwReset.pins b = PinLatches.idle := by cases b <;> rfl

/-! A line is driven, to its output level, exactly while its output enable is set (R22). -/

theorem drivenLevel_sda (s : State) (b : Bus) :
    drivenLevel s b .sda = if (s.pins b).sdaOe then some (s.pins b).sdaOut else none := by cases b <;> rfl

theorem drivenLevel_scl (s : State) (b : Bus) :
    drivenLevel s b .scl = if (s.pins b).sclOe then some (s.pins b).sclOut else none := by cases b <;> rfl

/-- Neither line of a bus with idle latches is driven. -/
theorem drivenLevel_of_idle (s : State) (b : Bus) (l : Line) (h : s.pins b = PinLatches.idle) :
    drivenLevel s b l = none := by
  cases l with
  | sda => rw [drivenLevel_sda, h]; rfl
  | scl => rw [drivenLevel_scl, h]; rfl

/-- Settles O6: the step is `hwReset`, which puts the registers at their values, the buffers at no cell and the latches
at idle. -/
theorem resetPutsEveryRegister : Obligations.ResetPutsEveryRegister := by
  intro s rest h
  refine ⟨_, step_reset s rest h, rfl, rfl, rfl, rfl, rfl, rfl, rfl, fun b => ?pins, rfl, rfl, rfl, rfl, rfl, rfl,
    rfl, rfl, rfl, rfl, fun a => ?buffers, rfl, fun b l => ?lines⟩
  case pins =>
    rw [State.hwReset_pins]
    exact ⟨rfl, rfl, rfl, rfl⟩
  case buffers => exact ⟨Memory.read_nil a, Memory.read_nil a⟩
  case lines => exact drivenLevel_of_idle _ b l (State.hwReset_pins _ b)

end Sys2Proof.Machine
end

section
/-! Encoding and decoding an item: the decoder reads back what the encoder writes, and answers well-formed instructions
only (30_encoding.md R60, R63, R66, R70 to R74, 60_exceptions.md R200). -/

namespace Sys2Proof

/-! ### The decoder of each format, on what the encoder writes -/

/-- The ports of an operation reach the decoder as they were written (R60). -/
theorem decode_opRequest (code : Byte) (cmd param : Word) (h : code.toNat < 16) :
    decode (opRequest code cmd param) = .ok (decodeOp (code.extractLsb' 0 4) cmd param) := by
  have hports : decode (opRequest code cmd param) =
      if code.toNat < 16 then
        .ok (decodeOp (code.extractLsb' 0 4) (word32 (byteK 0 cmd) (byteK 1 cmd) (byteK 2 cmd) (byteK 3 cmd))
          (word32 (byteK 0 param) (byteK 1 param) (byteK 2 param) (byteK 3 param)))
      else .error (.opPortTooWide code) := rfl
  rw [hports, if_pos h, word32_byteK, word32_byteK]

/-- A command word and its parameter reach the decoder as they were written (R63). -/
theorem decode_cwRequest (cmd param : Word) : decode (cwRequest cmd param) = .ok (decodeCw cmd param) := by
  have hports : decode (cwRequest cmd param) =
      .ok (decodeCw (word32 (byteK 0 cmd) (byteK 1 cmd) (byteK 2 cmd) (byteK 3 cmd))
        (word32 (byteK 0 param) (byteK 1 param) (byteK 2 param) (byteK 3 param))) := rfl
  rw [hports, word32_byteK, word32_byteK]

/-- The command a reply answers stands before the reply's own bytes (R70). -/
theorem decodeReply_wordBytes (fmt : Format) (f : Word → List Byte → Except DecodeError Instr) (cmd : Word)
    (reply : List Byte) : decodeReply fmt f (wordBytes cmd ++ reply) = f cmd reply := by
  have htake : takeWord (wordBytes cmd ++ reply) =
      some (word32 (byteK 0 cmd) (byteK 1 cmd) (byteK 2 cmd) (byteK 3 cmd), reply) := rfl
  rw [decodeReply, htake, word32_byteK]

theorem decodeEcho_append (cmd : Word) (body : List Byte) (c : Byte) (h : 1 ≤ body.length ∧ body.length ≤ 8) :
    decodeEcho cmd (body ++ [c]) = .ok (.replyEcho cmd body c) := by
  simp only [decodeEcho, splitLast_append, if_pos h]

theorem decodeVer_append (cmd : Word) (x0 x1 x2 patch minor major : Byte) (extra : List Byte) (c : Byte)
    (h : extra.length ≤ 2) :
    decodeVer cmd (x0 :: x1 :: x2 :: patch :: minor :: major :: (extra ++ [c])) =
      .ok (.replyVersion cmd x0 x1 x2 patch minor major extra c) := by
  simp only [decodeVer, splitLast_append, if_pos h]

theorem decodePf_append (cmd : Word) (x0 x1 x2 flag : Byte) (extra : List Byte) (c : Byte) (h : extra.length ≤ 4) :
    decodePf cmd (x0 :: x1 :: x2 :: flag :: (extra ++ [c])) = .ok (.replyPassfail cmd x0 x1 x2 flag extra c) := by
  simp only [decodePf, splitLast_append, if_pos h]

/-- An operand no wider than a port comes back from the port's low bits (R61). -/
theorem extractLsb'_setWidth {n : Nat} (x : BitVec n) (h : n ≤ 32) : (x.setWidth 32).extractLsb' 0 n = x := by
  apply BitVec.eq_of_toNat_eq
  have hlt : x.toNat < 2 ^ 32 := x.isLt.trans_le (Nat.pow_le_pow_right (by decide) h)
  rw [BitVec.extractLsb'_toNat, BitVec.toNat_setWidth, Nat.shiftRight_zero, Nat.mod_eq_of_lt hlt,
    Nat.mod_eq_of_lt x.isLt]

/-! ### Reading back -/

/-- Settles O1: each format has its lemma, and a row without operands is one computation of the decoder. -/
theorem decodeReadsBackEncode : Obligations.DecodeReadsBackEncode := by
  intro i hwf
  cases i with
  | csumAdd b =>
    exact (decode_opRequest 2 0 _ (by decide)).trans
      (congrArg (Except.ok ∘ Instr.csumAdd) (extractLsb'_setWidth b (by decide)))
  | stset code =>
    exact (decode_opRequest 6 0 _ (by decide)).trans
      (congrArg (Except.ok ∘ Instr.stset) (extractLsb'_setWidth code (by decide)))
  | recover bus =>
    exact (decode_opRequest 7 0 _ (by decide)).trans
      (congrArg (Except.ok ∘ Instr.recover) (extractLsb'_setWidth bus (by decide)))
  | enc cmd param => exact decode_opRequest 3 cmd param (by decide)
  | decr cmd => exact decode_opRequest 5 cmd 0 (by decide)
  | setFrameRate rate =>
    exact (decode_cwRequest _ _).trans
      (congrArg (Except.ok ∘ Instr.setFrameRate) (extractLsb'_setWidth rate (by decide)))
  | setBaudRate baud => exact decode_cwRequest _ baud
  | setI2cAddress addr =>
    exact (decode_cwRequest _ _).trans
      (congrArg (Except.ok ∘ Instr.setI2cAddress) (extractLsb'_setWidth addr (by decide)))
  | replyEcho cmd body c =>
    exact (decodeReply_wordBytes .rfEcho decodeEcho cmd _).trans
      (decodeEcho_append cmd body c (by simpa [Instr.wellFormed] using hwf))
  | replyVersion cmd x0 x1 x2 patch minor major extra c =>
    exact (decodeReply_wordBytes .rfVer decodeVer cmd _).trans
      (decodeVer_append cmd x0 x1 x2 patch minor major extra c (by simpa [Instr.wellFormed] using hwf))
  | replyPassfail cmd x0 x1 x2 flag extra c =>
    exact (decodeReply_wordBytes .rfPf decodePf cmd _).trans
      (decodePf_append cmd x0 x1 x2 flag extra c (by simpa [Instr.wellFormed] using hwf))
  | _ => rfl

/-! ### What the decoder answers is well-formed -/

theorem decodeOp_wellFormed (op : Nibble) (cmd param : Word) : (decodeOp op cmd param).wellFormed = true := by
  unfold decodeOp
  split <;> rfl

theorem decodeCw_wellFormed (cmd param : Word) : (decodeCw cmd param).wellFormed = true := by
  unfold decodeCw
  split_ifs <;> rfl

theorem decodeSt_wellFormed (code : Nibble) : (decodeSt code).wellFormed = true := by
  unfold decodeSt
  split <;> rfl

theorem decodeCf_wellFormed (bs : List Byte) (i : Instr) (h : decodeCf bs = .ok i) : i.wellFormed = true := by
  unfold decodeCf at h
  split at h
  case h_5 => cases h
  all_goals split_ifs at h <;> cases h <;> rfl

theorem decodeEcho_wellFormed (cmd : Word) (bs : List Byte) (i : Instr) (h : decodeEcho cmd bs = .ok i) :
    i.wellFormed = true := by
  unfold decodeEcho at h
  split at h
  · split_ifs at h with hlen
    cases h
    exact decide_eq_true hlen
  · cases h

theorem decodeVer_wellFormed (cmd : Word) (bs : List Byte) (i : Instr) (h : decodeVer cmd bs = .ok i) :
    i.wellFormed = true := by
  unfold decodeVer at h
  split at h
  · split at h
    · split_ifs at h with hlen
      cases h
      exact decide_eq_true hlen
    · cases h
  · cases h

theorem decodePf_wellFormed (cmd : Word) (bs : List Byte) (i : Instr) (h : decodePf cmd bs = .ok i) :
    i.wellFormed = true := by
  unfold decodePf at h
  split at h
  · split at h
    · split_ifs at h with hlen
      cases h
      exact decide_eq_true hlen
    · cases h
  · cases h

/-- A reply format answers what its own decoder answers of the bytes after the command word. -/
theorem decodeReply_ok (fmt : Format) (f : Word → List Byte → Except DecodeError Instr) (bs : List Byte) (i : Instr)
    (h : decodeReply fmt f bs = .ok i) : ∃ cmd reply, f cmd reply = .ok i := by
  unfold decodeReply at h
  split at h
  · exact ⟨_, _, h⟩
  · cases h

/-- Settles O2: by format, each decoder having its lemma. -/
theorem decodedInstructionIsWellFormed : Obligations.DecodedInstructionIsWellFormed := by
  rintro ⟨fmt, bytes⟩ i h
  cases fmt with
  | op =>
    simp only [decode] at h
    split at h
    · split_ifs at h
      cases h
      exact decodeOp_wellFormed _ _ _
    · cases h
  | cw =>
    simp only [decode] at h
    split at h
    · cases h
      exact decodeCw_wellFormed _ _
    · cases h
  | cf => exact decodeCf_wellFormed bytes i h
  | rfEcho =>
    obtain ⟨cmd, reply, hreply⟩ := decodeReply_ok _ _ _ _ h
    exact decodeEcho_wellFormed cmd reply i hreply
  | rfVer =>
    obtain ⟨cmd, reply, hreply⟩ := decodeReply_ok _ _ _ _ h
    exact decodeVer_wellFormed cmd reply i hreply
  | rfPf =>
    obtain ⟨cmd, reply, hreply⟩ := decodeReply_ok _ _ _ _ h
    exact decodePf_wellFormed cmd reply i hreply
  | df9 =>
    simp only [decode] at h
    split at h
    · cases h
      rfl
    · cases h
  | st =>
    simp only [decode] at h
    split at h
    · split_ifs at h
      cases h
      exact decodeSt_wellFormed _
    · cases h

/-- Settles O4: each word is one computation of the decoder on the bytes of its item. -/
theorem tableWordsDecode : Obligations.TableWordsDecode := by
  exact ⟨rfl, rfl, rfl, rfl, rfl, by decide, by decide, rfl, rfl, by decide, rfl, rfl, rfl⟩

end Sys2Proof
end

section
/-! What each operation of the block writes at most (10_state.md R26), and what an instruction and a step add to it. -/

namespace Sys2Proof.Machine

/-! ### The core operations -/

/-- ENC writes the frame's registers, ACC and the status (R26, R100, R102). -/
theorem enc_frame (cmd param : Word) (s : State) :
    enc cmd param s =
      { s with
        status := (enc cmd param s).status, ok := (enc cmd param s).ok, rej := (enc cmd param s).rej,
        txbuf := (enc cmd param s).txbuf, txlen := (enc cmd param s).txlen, rplen := (enc cmd param s).rplen,
        acc := (enc cmd param s).acc } := by
  cases h : lookup s.cfg.cmdTable cmd with
  | none => rw [enc_unknown cmd param s h]; rfl
  | some row => rw [enc_known cmd param s row h]; rfl

/-- What DECD leaves: no value in the measurement registers and a failure, or the three values of a frame and the status
of the measurement (R131 to R138). -/
theorem decd_cases (s : State) :
    (∃ acc st, decd s =
      { s with
        acc := acc, status := st, ok := false, rej := false,
        dist := none, flux := none, temp := none, mvalid := false }) ∨
    ∃ acc d f t st ok, decd s =
      { s with
        acc := acc, status := st, ok := ok, rej := false,
        dist := some d, flux := some f, temp := some t, mvalid := true } := by
  by_cases hlen : s.rxlen = 9
  case neg => rw [decd_length s hlen]; exact .inl ⟨_, _, rfl⟩
  by_cases hsum : csum8 (rxRange s 8) = rxRead s 8
  case neg => rw [decd_checksum s hlen hsum]; exact .inl ⟨_, _, rfl⟩
  rw [decd_fields s hlen hsum, decodeFields_entered]
  exact .inr ⟨_, _, _, _, _, _, rfl⟩

/-- DECD writes the measurement registers, ACC and the status (R26). -/
theorem decd_frame (s : State) :
    decd s =
      { s with
        status := (decd s).status, ok := (decd s).ok, rej := (decd s).rej, acc := (decd s).acc,
        dist := (decd s).dist, flux := (decd s).flux, temp := (decd s).temp, mvalid := (decd s).mvalid } := by
  obtain ⟨_, _, h⟩ | ⟨_, _, _, _, _, _, h⟩ := decd_cases s <;> rw [h]

theorem decodePayload_frame (kind : ReplyKind) (s : State) (c : Byte) :
    ∃ st ok ver vvalid, decodePayload kind (s.enter.setAcc c) =
      { s with status := st, ok := ok, rej := false, acc := c, ver := ver, vvalid := vvalid } := by
  cases kind with
  | version => exact ⟨_, _, _, _, decodePayload_version s c⟩
  | passFail => exact ⟨_, _, _, _, decodePayload_passFail s c⟩
  | echo | none => exact ⟨_, _, _, _, decodePayload_echo s c⟩

/-- DECR writes the version registers, ACC and the status (R26). -/
theorem decr_frame (cmd : Word) (s : State) :
    decr cmd s =
      { s with
        status := (decr cmd s).status, ok := (decr cmd s).ok, rej := (decr cmd s).rej, acc := (decr cmd s).acc,
        ver := (decr cmd s).ver, vvalid := (decr cmd s).vvalid } := by
  cases h : lookup s.cfg.cmdTable cmd with
  | none => rw [decr_unknown cmd s h]; rfl
  | some row =>
    by_cases hnone : row.kind = .none
    · rw [decr_noReply cmd s row h hnone]; rfl
    by_cases hlen : s.rxlen.toNat = (byteK 0 cmd).toNat
    case neg => rw [decr_length cmd s row h hnone hlen]; rfl
    by_cases hsum : csum8 (rxRange s ((byteK 0 cmd).toNat - 1)) = rxRead s ((byteK 0 cmd).toNat - 1)
    case neg => rw [decr_checksum cmd s row h hnone hlen hsum]; rfl
    obtain ⟨_, _, _, _, hpayload⟩ := decodePayload_frame row.kind s _
    rw [decr_payload cmd s row h hnone hlen hsum, hpayload]

/-- STSET writes the status (R26, R181). -/
theorem stset_frame (code : Nibble) (s : State) :
    stset code s =
      { s with status := (stset code s).status, ok := (stset code s).ok, rej := (stset code s).rej } := by
  obtain h | ⟨_, -, h⟩ := stset_cases code s <;> rw [h] <;> rfl

/-- RECOVER writes the status and the FSM's registers (R26, R160). -/
theorem recover_frame (bus : BitVec 1) (s : State) :
    recover bus s =
      { s with
        status := (recover bus s).status, ok := (recover bus s).ok, rej := (recover bus s).rej,
        busy := (recover bus s).busy, rstep := (recover bus s).rstep, rbus := (recover bus s).rbus,
        rall := (recover bus s).rall } := by
  obtain h | ⟨-, -, h⟩ := recover_cases bus s <;> rw [h] <;> rfl

/-- RECOVER_ALL writes the status and the FSM's registers (R26, R166). -/
theorem recoverAll_frame (s : State) :
    recoverAll s =
      { s with
        status := (recoverAll s).status, ok := (recoverAll s).ok, rej := (recoverAll s).rej,
        busy := (recoverAll s).busy, rstep := (recoverAll s).rstep, rbus := (recoverAll s).rbus,
        rall := (recoverAll s).rall } := by
  obtain h | ⟨-, h⟩ := recoverAll_cases s <;> rw [h] <;> rfl

/-- No core operation changes a parameter (R24, R52). -/
theorem CoreOp.run_cfg (op : CoreOp) (s : State) : (op.run s).cfg = s.cfg := by
  cases op with
  | enc cmd param => exact (congrArg State.cfg (enc_frame cmd param s) :)
  | decd => exact (congrArg State.cfg (decd_frame s) :)
  | decr cmd => exact (congrArg State.cfg (decr_frame cmd s) :)
  | stset code => exact (congrArg State.cfg (stset_frame code s) :)
  | recover bus => exact (congrArg State.cfg (recover_frame bus s) :)
  | recoverAll => exact (congrArg State.cfg (recoverAll_frame s) :)
  | nop | csumClr | csumAdd | reserved => rfl

/-! ### An instruction -/

/-- An instruction that loads nothing is turned away, or runs its core operation (R31, R241). -/
theorem exec_next_cases (i : Instr) (s t : State) (hn : receivedBytes i = none) (h : exec i s = .next t) :
    t = s ∨ t = (coreOp i).run s := by
  rw [exec_eq, hn] at h
  obtain rfl := Host.Outcome.next.inj h
  exact (admitted_cases (coreOp i).run s).imp And.right And.right

/-- A received frame is the load of its bytes and then its core operation, admitted (R80, R187). -/
theorem exec_received (i : Instr) (bs : List Byte) (s : State) (h : receivedBytes i = some bs) :
    exec i s = .next (admitted (coreOp i).run (s.loadRx bs)) := by
  rw [exec_eq, h]

/-- Every instruction answers a next state in every state (R44, R205). -/
theorem exec_total (i : Instr) (s : State) : ∃ t, exec i s = .next t := ⟨_, exec_eq i s⟩

theorem exec_cfg (i : Instr) (s t : State) (h : exec i s = .next t) : t.cfg = s.cfg := by
  obtain ⟨rxbuf, rxlen, rfl⟩ := exec_next_admitted i s t h
  obtain ⟨-, hadm⟩ | ⟨-, hadm⟩ := admitted_cases (coreOp i).run { s with rxbuf := rxbuf, rxlen := rxlen }
  · rw [hadm]
  · rw [hadm, CoreOp.run_cfg]

/-- Settles O12: the decode of a received frame is not admitted, so only the load is left. -/
theorem receivedFrameWhileBusyOnlyLoads : Obligations.ReceivedFrameWhileBusyOnlyLoads := by
  intro i bs s hb hbs
  rw [exec_received i bs s hbs, admitted_busy _ _ (by rw [State.loadRx_busy, hb])]

/-! ### The recovery FSM -/

theorem State.setPins_frame (s : State) (b : Bus) (p : PinLatches) :
    s.setPins b p = { s with pins0 := (s.setPins b p).pins0, pins1 := (s.setPins b p).pins1 } := by
  cases b <;> rfl

theorem emitStep_frame (s : State) :
    s.emitStep = { s with pins0 := s.emitStep.pins0, pins1 := s.emitStep.pins1, trace := s.emitStep.trace } := by
  cases h : recoveryStep s.rbus s.rstep.toNat with
  | none => rw [State.emitStep, h]
  | some e => rw [emitStep_eq s e h, State.setPins_frame]; rfl

/-- A step of the FSM touches its registers, BUSY, `done`, the latches and the trace, and nothing of the codec (R170). -/
theorem fsmStep_frame (s : State) :
    fsmStep s =
      { s with
        rstep := (fsmStep s).rstep, rbus := (fsmStep s).rbus, rall := (fsmStep s).rall, busy := (fsmStep s).busy,
        done := (fsmStep s).done, pins0 := (fsmStep s).pins0, pins1 := (fsmStep s).pins1,
        trace := (fsmStep s).trace } := by
  rw [fsmStep, s.emitStep.advance_eq, emitStep_frame s]

/-! ### A step -/

/-- A step takes the first event of the inbox, if it holds one (R31). -/
theorem step_event (s : State) (ev : HostEvent) (rest : List HostEvent) (h : s.inbox = ev :: rest) :
    step s = react ev { s with inbox := rest } := by
  rw [step, takeEvent, h]

/-- An item that decodes is run, and `done` raised once it has completed (R31). -/
theorem runRequest_ok (r : Request) (s t : State) (i : Instr) (hr : decode r = .ok i) (ht : exec i s = .next t) :
    runRequest r s = .next { t with done := !s.busy && !t.busy } := by
  rw [runRequest, hr]
  exact congrArg (raiseDone s.busy) ht

/-- Settles O3: the step takes the item off the inbox and runs what it decodes to. -/
theorem stepRunsPresentedInstruction : Obligations.StepRunsPresentedInstruction := by
  intro s r rest i t hin hr ht
  rw [step_event s _ rest hin]
  exact runRequest_ok r _ t i hr ht

/-- Settles O11: a busy block turns the item away, and the step around it leaves `done` low. -/
theorem busyAcceptsNothing : Obligations.BusyAcceptsNothing := by
  intro i s hb hn
  have hkept (u : State) (hu : u.busy = true) : exec i u = .next u := by
    rw [exec_eq, hn]
    exact congrArg Host.Outcome.next (admitted_busy _ u hu)
  refine ⟨hkept s hb, fun r rest hin hr => ?_⟩
  rw [stepRunsPresentedInstruction s r rest i _ hin hr (hkept _ hb), hb]
  rfl

/-- What an item does: a next state, or the refusal of one that decodes to nothing (log entry 5). -/
theorem runRequest_cases (r : Request) (s : State) :
    (∃ i t, decode r = .ok i ∧ exec i s = .next t ∧ runRequest r s = .next { t with done := !s.busy && !t.busy }) ∨
    ∃ e, decode r = .error e ∧ runRequest r s = .refused (.undecodable e) := by
  cases hr : decode r with
  | ok i =>
    obtain ⟨t, ht⟩ := exec_total i s
    exact .inl ⟨i, t, rfl, ht, runRequest_ok r s t i hr ht⟩
  | error e => exact .inr ⟨e, rfl, by rw [runRequest, hr]⟩

/-- Settles O5: an instruction answers a next state, and so does every event but an item that decodes to nothing. -/
theorem onlyUndecodableItemsStop : Obligations.OnlyUndecodableItemsStop := by
  refine ⟨exec_total, fun s => ?_⟩
  cases hin : s.inbox with
  | nil =>
    obtain ⟨-, h⟩ | ⟨_, _, hcons, -⟩ := step_cases s
    · exact .inl ⟨_, h⟩
    · rw [hin] at hcons; cases hcons
  | cons ev rest =>
    rw [step_event s ev rest hin]
    cases ev with
    | present r =>
      obtain ⟨_, _, -, -, h⟩ | ⟨e, he, h⟩ := runRequest_cases r { s with inbox := rest }
      · exact .inl ⟨_, h⟩
      · exact .inr ⟨r, rest, e, .inl rfl, he, h⟩
    | presentDuring w r =>
      obtain ⟨_, _, -, -, h⟩ | ⟨e, he, h⟩ := runRequest_cases r (seenDuring w { s with inbox := rest })
      · exact .inl ⟨_, congrArg (landWrite w) h⟩
      · exact .inr ⟨r, rest, e, .inr ⟨w, rfl⟩, he, congrArg (landWrite w) h⟩
    | write | reset | idle => exact .inl ⟨_, rfl⟩

theorem seenDuring_busy (w : HostWrite) (s : State) : (seenDuring w s).busy = s.busy := by
  obtain h | h := seenDuring_cases w s <;> rw [h]
  exact State.hostWrite_busy _ w

/-- An item during a coinciding write is run on the old or the new value, and the write lands (R243). -/
theorem react_presentDuring (w : HostWrite) (r : Request) (s t : State) (i : Instr) (hr : decode r = .ok i)
    (ht : exec i (seenDuring w s) = .next t) :
    react (.presentDuring w r) s = .next ({ t with done := !s.busy && !t.busy }.hostWrite w) := by
  rw [react, runRequest_ok r _ t i hr ht, seenDuring_busy]
  rfl

/-- Settles O32: the model's free choice is between the two states named, and the write lands on what the item left. -/
theorem coincidingWriteIsSeenOldOrNew : Obligations.CoincidingWriteIsSeenOldOrNew := by
  intro s w r rest i hin hr
  obtain ⟨t, ht⟩ := exec_total i (seenDuring w { s with inbox := rest })
  refine ⟨_, t, seenDuring_cases w { s with inbox := rest }, ht, ?_⟩
  rw [step_event s _ rest hin]
  exact react_presentDuring w r _ t i hr ht

/-- An item that answers a next state was run, and `done` written after it (R31). -/
theorem runRequest_next (r : Request) (s t : State) (h : runRequest r s = .next t) :
    ∃ i u done, exec i s = .next u ∧ t = { u with done := done } := by
  obtain ⟨i, u, -, hu, hrun⟩ | ⟨_, -, hrun⟩ := runRequest_cases r s
  · exact ⟨i, u, _, hu, Host.Outcome.next.inj (h.symm.trans hrun)⟩
  · rw [hrun] at h; cases h

/-- An item during a coinciding write that answers a next state was run, and the write landed (R243). -/
theorem react_presentDuring_next (w : HostWrite) (r : Request) (s t : State)
    (h : react (.presentDuring w r) s = .next t) :
    ∃ u, runRequest r (seenDuring w s) = .next u ∧ t = u.hostWrite w := by
  rw [react] at h
  cases hrun : runRequest r (seenDuring w s) with
  | next u => rw [hrun] at h; exact ⟨u, rfl, (Host.Outcome.next.inj h).symm⟩
  | fault | refused => rw [hrun] at h; cases h

/-! What is kept by every instruction, every host write, every change of the model's own fields, a reset and a step of
the FSM is kept by a step. A claim that every step keeps something follows from these five. -/

section
variable (P : State → Prop)
  (hmodel : ∀ s inbox done draws, P s → P { s with inbox := inbox, done := done, draws := draws })
  (hexec : ∀ i s t, exec i s = .next t → P s → P t)
  (hwrite : ∀ w s, P s → P (s.hostWrite w))
  (hreset : ∀ s, P s → P s.hwReset)
  (hfsm : ∀ s, s.busy = true → P s → P (fsmStep s))

include hmodel hfsm in
theorem tick_keeps (s : State) (hs : P s) : P (tick s) := by
  unfold tick
  split
  · exact hfsm s ‹_› hs
  · exact hmodel s _ _ _ hs

include hmodel hexec in
theorem runRequest_keeps (r : Request) (s t : State) (h : runRequest r s = .next t) (hs : P s) : P t := by
  obtain ⟨i, u, done, hu, rfl⟩ := runRequest_next r s t h
  exact hmodel u _ _ _ (hexec i s u hu hs)

include hmodel hwrite in
theorem seenDuring_keeps (w : HostWrite) (s : State) (hs : P s) : P (seenDuring w s) := by
  have hdraws := hmodel s s.inbox s.done (s.draws + 1) hs
  obtain h | h := seenDuring_cases w s <;> rw [h]
  · exact hdraws
  · exact hwrite w _ hdraws

include hmodel hexec hwrite hreset hfsm

theorem react_keeps (ev : HostEvent) (s t : State) (h : react ev s = .next t) (hs : P s) : P t := by
  cases ev with
  | present r => exact runRequest_keeps P hmodel hexec r s t h hs
  | presentDuring w r =>
    obtain ⟨u, hu, rfl⟩ := react_presentDuring_next w r s t h
    exact hwrite w u (runRequest_keeps P hmodel hexec r _ u hu (seenDuring_keeps P hmodel hwrite w s hs))
  | write w => cases h; exact hmodel _ _ _ _ (hwrite w s hs)
  | reset => cases h; exact hreset s hs
  | idle => cases h; exact tick_keeps P hmodel hfsm s hs

theorem step_keeps (s t : State) (h : step s = .next t) (hs : P s) : P t := by
  obtain ⟨-, hstep⟩ | ⟨ev, rest, -, hstep⟩ := step_cases s <;> rw [hstep] at h
  · cases h
    exact tick_keeps P hmodel hfsm s hs
  · exact react_keeps P hmodel hexec hwrite hreset hfsm ev _ t h (hmodel s _ _ _ hs)

end

/-- Settles O10: no part of a step writes the parameters. -/
theorem parametersNeverChange : Obligations.ParametersNeverChange := by
  intro s t h
  refine step_keeps (fun u => u.cfg = s.cfg) (fun _ _ _ _ hu => hu)
    (fun i u v huv hu => (exec_cfg i u v huv).trans hu) (fun w u hu => (State.hostWrite_cfg u w).trans hu)
    (fun _ hu => hu) (fun u _ hu => ?fsm) s t h rfl
  case fsm => rw [fsmStep_frame]; exact hu

end Sys2Proof.Machine
end

section
/-! The invariant of the machine: it holds at reset, and every step keeps it (10_state.md R10, R13, R14, R22, 20_memory.md
R40, R41, R43, 43_bus_recovery.md R163, 60_exceptions.md R204). -/

namespace Sys2Proof.Machine

/-! ### The transmit buffer -/

/-- Eight cells from offset 0 and a length of at most 8 are a transmit buffer (R41). -/
theorem txOk_of_cells (s : State) (cells : List Byte) (hbuf : s.txbuf = Memory.ofBytes 0 cells)
    (h8 : cells.length = 8) (hlen : s.txlen.toNat ≤ 8) : s.txOk := by
  refine .inr ⟨?_, hlen⟩
  rw [hbuf, Memory.ofBytes_offsets, h8, List.range_eq_range']

theorem padTo8_length (frame : List Byte) (h : frame.length ≤ 8) : (padTo8 frame).length = 8 := by
  rw [padTo8, List.length_append, List.length_replicate]
  omega

/-- A frame with its checksum fits the eight transmit cells (R64, R67). -/
theorem commandBody_length_lt (c : Config) (hw : c.wellFormed = true) (row : CmdRow) (hr : row ∈ c.cmdTable)
    (param : Word) : (commandBody row param).length + 1 ≤ 8 := by
  obtain ⟨hwidth, hlen, -⟩ := CmdRow.facts c hw row hr
  rw [commandBody_length c hw row hr param]
  omega

/-- What ENC leaves with a well-formed table: eight zeros and a rejection, or the frame of a row (R100, R102). -/
theorem enc_cases (cmd param : Word) (s : State) (hw : s.cfg.wellFormed = true) :
    enc cmd param s = s.enter.clearFrame.reject ∨
    ∃ row ∈ s.cfg.cmdTable, row.word = cmd ∧ enc cmd param s = s.encoded (commandBody row param) (byteK 0 cmd) := by
  cases h : lookup s.cfg.cmdTable cmd with
  | none => exact .inl (enc_unknown cmd param s h)
  | some row =>
    obtain ⟨hmem, rfl⟩ := lookup_some s cmd row h
    exact .inr ⟨row, hmem, rfl, enc_row s hw row hmem param⟩

theorem enc_txOk (cmd param : Word) (s : State) (hw : s.cfg.wellFormed = true) : (enc cmd param s).txOk := by
  obtain h | ⟨row, hrow, -, h⟩ := enc_cases cmd param s hw
  · rw [h]
    exact txOk_of_cells _ (List.replicate 8 0) rfl rfl (Nat.zero_le 8)
  · have hlen := commandBody_length_lt s.cfg hw row hrow param
    rw [h]
    refine txOk_of_cells _ _ rfl (padTo8_length _ (by simpa using hlen)) ?_
    rw [State.encoded, BitVec.toNat_ofNat, Nat.mod_eq_of_lt (by omega)]
    exact hlen

/-! ### The core operations -/

/-- A rejection writes REJ and OK alone. -/
theorem reject_inv (s : State) (h : s.Inv) : s.reject.Inv :=
  ⟨h.cfg, h.tx, h.rx, h.valid, nofun, h.fsm⟩

theorem enc_inv (cmd param : Word) (s : State) (h : s.Inv) : (enc cmd param s).Inv := by
  have htx := enc_txOk cmd param s h.cfg
  obtain ⟨hstatus, hok⟩ := enc_finalStatus cmd param s
  have hflags : (enc cmd param s).flagsOk := fun hone => ⟨hstatus, by simpa [hone] using hok⟩
  rw [enc_frame]
  exact ⟨h.cfg, htx, h.rx, h.valid, hflags, h.fsm⟩

theorem decd_inv (s : State) (h : s.Inv) : (decd s).Inv := by
  obtain ⟨-, hok, hrej⟩ := decd_finalStatus s
  have hflags : (decd s).flagsOk := fun hone => ⟨hok.1 hone, hrej⟩
  obtain ⟨-, -, -, hver⟩ := h.valid
  obtain ⟨_, _, hrun⟩ | ⟨_, _, _, _, _, _, hrun⟩ := decd_cases s <;> rw [hrun] at hflags ⊢
  · exact ⟨h.cfg, h.tx, h.rx, ⟨rfl, rfl, rfl, hver⟩, hflags, h.fsm⟩
  · exact ⟨h.cfg, h.tx, h.rx, ⟨rfl, rfl, rfl, hver⟩, hflags, h.fsm⟩

/-- DECR keeps VVALID true to VER: it writes both, or neither (R14, R143). -/
theorem decr_version_isSome (cmd : Word) (s : State) (h : s.ver.isSome = s.vvalid) :
    (decr cmd s).ver.isSome = (decr cmd s).vvalid := by
  obtain ⟨hver, hvvalid⟩ | ⟨_, _, -, hrun⟩ := decr_version_cases cmd s
  · rw [hver, hvvalid, h]
  · rw [hrun, decodePayload_version]; rfl

theorem decr_inv (cmd : Word) (s : State) (h : s.Inv) : (decr cmd s).Inv := by
  have hflags : (decr cmd s).flagsOk := (decr_finalStatus cmd s).2.1
  obtain ⟨hdist, hflux, htemp, hver⟩ := h.valid
  have hver' := decr_version_isSome cmd s hver
  rw [decr_frame]
  exact ⟨h.cfg, h.tx, h.rx, ⟨hdist, hflux, htemp, hver'⟩, hflags, h.fsm⟩

theorem stset_inv (code : Nibble) (s : State) (h : s.Inv) : (stset code s).Inv := by
  obtain hrun | ⟨st, -, hrun⟩ := stset_cases code s <;> rw [hrun]
  · exact reject_inv s h
  · exact ⟨h.cfg, h.tx, h.rx, h.valid, fun hok => ⟨by simpa using hok, rfl⟩, h.fsm⟩

/-! ### The FSM -/

theorem fsmOk_idle (s : State) (hb : s.busy = false) :
    s.fsmOk ↔
      s.rstep = 0 ∧ s.rbus = .bus0 ∧ s.rall = false ∧ s.pins0 = PinLatches.idle ∧ s.pins1 = PinLatches.idle := by
  simp [State.fsmOk, hb]

theorem fsmOk_busy (s : State) (hb : s.busy = true) :
    s.fsmOk ↔
      s.cfg.hasRecovery = true ∧ 1 ≤ s.rstep.toNat ∧ s.rstep.toNat ≤ 29 ∧
      s.pins s.rbus = latchesAfter (s.rstep.toNat - 1) ∧ s.pins s.rbus.other = PinLatches.idle ∧
      (s.rall = true → s.cfg.nBuses = .two) ∧ (s.rbus = .bus1 → s.cfg.nBuses = .two) := by
  rw [State.fsmOk, if_pos hb]

/-- While no recovery runs the latches of both buses are passive (R22). -/
theorem pins_idle (s : State) (hf : s.fsmOk) (hb : s.busy = false) (b : Bus) : s.pins b = PinLatches.idle := by
  obtain ⟨-, -, -, h0, h1⟩ := (fsmOk_idle s hb).1 hf
  cases b
  · exact h0
  · exact h1

/-- An accepted recovery of a bus that exists starts before the first step, with passive latches (R160, R166). -/
theorem startRecovery_inv (s : State) (b : Bus) (all : Bool) (h : s.Inv) (hb : s.busy = false)
    (hfsm : s.cfg.hasRecovery = true) (hall : all = true → s.cfg.nBuses = .two) (hbus : b = .bus1 → s.cfg.nBuses = .two) :
    (s.startRecovery b all).Inv := by
  have hpins := pins_idle s h.fsm hb
  refine ⟨h.cfg, h.tx, h.rx, h.valid, fun _ => ⟨rfl, rfl⟩, ?_⟩
  rw [fsmOk_busy _ rfl]
  exact ⟨hfsm, by simp, by simp, hpins b, hpins b.other, hall, hbus⟩

theorem recover_inv (bus : BitVec 1) (s : State) (h : s.Inv) (hb : s.busy = false) : (recover bus s).Inv := by
  obtain hrun | ⟨hfsm, hexists, hrun⟩ := recover_cases bus s <;> rw [hrun]
  · exact reject_inv s h
  · refine startRecovery_inv s _ _ h hb hfsm nofun fun hbus => ?_
    refine ((busExists_iff s.cfg bus).1 hexists).resolve_left fun hzero => ?_
    rw [Bus.ofNumber, if_pos hzero] at hbus
    cases hbus

theorem recoverAll_inv (s : State) (h : s.Inv) (hb : s.busy = false) : (recoverAll s).Inv := by
  obtain hrun | ⟨hfsm, hrun⟩ := recoverAll_cases s <;> rw [hrun]
  · exact reject_inv s h
  · exact startRecovery_inv s _ _ h hb hfsm (fun hall => by simpa using hall) nofun

/-- Every core operation keeps the invariant of an idle block. -/
theorem CoreOp.run_inv (op : CoreOp) (s : State) (h : s.Inv) (hb : s.busy = false) : (op.run s).Inv := by
  cases op with
  | nop | csumClr | csumAdd => exact ⟨h.cfg, h.tx, h.rx, h.valid, h.flags, h.fsm⟩
  | enc cmd param => exact enc_inv cmd param s h
  | decd => exact decd_inv s h
  | decr cmd => exact decr_inv cmd s h
  | stset code => exact stset_inv code s h
  | reserved => exact reject_inv s h
  | recover bus => exact recover_inv bus s h hb
  | recoverAll => exact recoverAll_inv s h hb

/-- The latches of both buses are idle when those of one bus and of the other are. -/
theorem pins_idle_of_other (s : State) (b : Bus) (h : s.pins b = PinLatches.idle)
    (hother : s.pins b.other = PinLatches.idle) : s.pins0 = PinLatches.idle ∧ s.pins1 = PinLatches.idle := by
  cases b
  · exact ⟨h, hother⟩
  · exact ⟨hother, h⟩

/-- The sequencing after the emission of a step keeps the FSM in order: at the next step, before the first step of the
second bus, or idle (R169). -/
theorem advance_fsmOk (s : State) (hb : s.busy = true) (hfsm : s.cfg.hasRecovery = true) (h29 : s.rstep.toNat ≤ 29)
    (hpins : s.pins s.rbus = latchesAfter s.rstep.toNat) (hother : s.pins s.rbus.other = PinLatches.idle)
    (hall : s.rall = true → s.cfg.nBuses = .two) (hbus : s.rbus = .bus1 → s.cfg.nBuses = .two) : s.advance.fsmOk := by
  obtain ⟨hlt, h⟩ | ⟨hge, hrall, hrbus, h⟩ | ⟨hge, -, h⟩ := advance_cases s <;> rw [h]
  · have hstep : (s.rstep + 1).toNat = s.rstep.toNat + 1 := by
      rw [BitVec.toNat_add]
      exact Nat.mod_eq_of_lt (by simp; omega)
    refine (fsmOk_busy _ (by exact hb)).2 ?_
    simp only [hstep, Nat.add_sub_cancel]
    exact ⟨hfsm, by omega, by omega, hpins, hother, hall, hbus⟩
  · have hlast : s.rstep.toNat = 29 := by omega
    rw [hrbus, hlast] at hpins
    rw [hrbus] at hother
    exact (fsmOk_busy _ (by exact hb)).2 ⟨hfsm, by simp, by simp, hother, hpins, hall, fun _ => hall hrall⟩
  · have hlast : s.rstep.toNat = 29 := by omega
    rw [hlast] at hpins
    rw [fsmOk_idle _ rfl]
    exact ⟨rfl, rfl, rfl, pins_idle_of_other s s.rbus hpins hother⟩

theorem fsmStep_fsmOk (s : State) (hf : s.fsmOk) (hb : s.busy = true) : (fsmStep s).fsmOk := by
  obtain ⟨e, -, hemit⟩ := emitStep_row s hf hb
  obtain ⟨hfsm, -, h29, -, hother, hall, hbus⟩ := (fsmOk_busy s hb).1 hf
  have hother' := State.setPins_pins_ne s s.rbus _ (latchesAfter s.rstep.toNat) s.rbus.other_ne
  rw [fsmStep, hemit]
  exact advance_fsmOk _ (by simpa using hb) (by simpa using hfsm) (by simpa using h29) (by simp)
    (by simpa [hother'] using hother) (by simpa using hall) (by simpa using hbus)

theorem fsmStep_inv (s : State) (h : s.Inv) (hb : s.busy = true) : (fsmStep s).Inv := by
  have hfsm := fsmStep_fsmOk s h.fsm hb
  rw [fsmStep_frame] at hfsm ⊢
  exact ⟨h.cfg, h.tx, h.rx, h.valid, h.flags, hfsm⟩

/-! ### The host's writes and reset -/

/-- `RXLEN` takes any value, and a byte goes to one of the nine cells or nowhere (R42). -/
theorem hostWrite_inv (w : HostWrite) (s : State) (h : s.Inv) : (s.hostWrite w).Inv := by
  have hrx : (s.hostWrite w).rxOk := by
    obtain ⟨hwf, hbound⟩ := h.rx
    cases w with
    | cell addr data => exact ⟨s.rxWrite_wf _ data hwf, s.rxWrite_bound _ data hbound⟩
    | length n => exact h.rx
  rw [s.hostWrite_eq] at hrx ⊢
  exact ⟨h.cfg, h.tx, hrx, h.valid, h.flags, h.fsm⟩

theorem loadRx_inv (bs : List Byte) (s : State) (h : s.Inv) : (s.loadRx bs).Inv := by
  obtain ⟨hwf, hbound⟩ := h.rx
  rw [s.loadRx_eq]
  exact ⟨h.cfg, h.tx, ⟨s.rxWriteFrom_wf 0 bs hwf, s.rxWriteFrom_bound 0 bs hbound⟩, h.valid, h.flags, h.fsm⟩

theorem admitted_inv (op : CoreOp) (s : State) (h : s.Inv) : (admitted op.run s).Inv := by
  obtain ⟨-, hadm⟩ | ⟨hb, hadm⟩ := admitted_cases op.run s <;> rw [hadm]
  · exact h
  · exact op.run_inv s h hb

theorem exec_inv (i : Instr) (s t : State) (ht : exec i s = .next t) (h : s.Inv) : t.Inv := by
  rw [exec_eq] at ht
  obtain rfl := Host.Outcome.next.inj ht
  cases receivedBytes i with
  | none => exact admitted_inv _ s h
  | some bs => exact admitted_inv _ _ (loadRx_inv bs s h)

/-- The reset values meet the invariant with any parameters the block may be built with (R67, R230). -/
theorem reset_inv (c : Config) (hw : c.wellFormed = true) (trace : List TraceEntry) (inbox : List HostEvent)
    (epoch draws : Nat) :
    { State.reset with cfg := c, trace := trace, inbox := inbox, epoch := epoch, draws := draws }.Inv where
  cfg := hw
  tx := .inl ⟨rfl, rfl⟩
  rx := ⟨rfl, nofun⟩
  valid := ⟨rfl, rfl, rfl, rfl⟩
  flags := nofun
  fsm := (fsmOk_idle _ rfl).2 ⟨rfl, rfl, rfl, rfl, rfl⟩

/-- Settles O7: the reset values, with the default parameters. -/
theorem resetMeetsInvariant : Obligations.ResetMeetsInvariant :=
  reset_inv Config.standard (by decide) [] [] 0 0

/-- Settles O8: each part of a step keeps the invariant. -/
theorem everyStepKeepsInvariant : Obligations.EveryStepKeepsInvariant := by
  intro s t hs ht
  exact step_keeps State.Inv (fun _ _ _ _ h => ⟨h.cfg, h.tx, h.rx, h.valid, h.flags, h.fsm⟩) exec_inv hostWrite_inv
    (fun u h => reset_inv u.cfg h.cfg u.trace u.inbox (u.epoch + 1) u.draws) (fun u hb h => fsmStep_inv u h hb)
    s t ht hs

/-- Settles O9: without a recovery the latches are passive, and passive latches drive nothing. -/
theorem pinsPassiveOutsideRecovery : Obligations.PinsPassiveOutsideRecovery :=
  fun s hinv hb b l => drivenLevel_of_idle s b l (pins_idle s hinv.fsm hb b)

end Sys2Proof.Machine
end

section
/-! What each family of instructions leaves unchanged (10_state.md R26, 20_memory.md R40 to R42, 43_bus_recovery.md
R170). -/

namespace Sys2Proof.Machine

/-! ### Status and checksum -/

/-- The core operations that write STATUS, OK and REJ at most (R26). -/
def CoreOp.statusOnly : CoreOp → Bool
  | .nop | .stset _ | .reserved => true
  | _ => false

theorem CoreOp.statusOnly_frame (op : CoreOp) (s : State) (h : op.statusOnly = true) :
    op.run s = { s with status := (op.run s).status, ok := (op.run s).ok, rej := (op.run s).rej } := by
  cases op with
  | nop | reserved => rfl
  | stset code => exact stset_frame code s
  | _ => cases h

/-- The rows of the reserved operation codes and of the status codes (R62, R200, R201). -/
def statusRows : List Instr :=
  [.reserved9, .reserved10, .reserved11, .reserved12, .reserved13, .reserved14, .reserved15,
    .stReady, .stSerialTimeout, .stHeaderNotFound, .stChecksumMismatch, .stDeviceTimeout, .stPass, .stFail,
    .stI2cReadError, .stI2cWriteError, .stI2cLengthError, .stWeakSignal, .stStrongSignal, .stAmbientFlood,
    .stReserved13, .stReserved14, .stReserved15]

theorem statusRows_coreOp : ∀ i ∈ statusRows, (coreOp i).statusOnly = true ∧ receivedBytes i = none := by
  decide

/-- Settles O52: turned away or run, each of these instructions writes what its core operation writes. -/
theorem statusAndChecksumFrames : Obligations.StatusAndChecksumFrames := by
  intro i s t ht
  refine ⟨fun hi => ?status, fun hi => ?checksum⟩
  case status =>
    have hop : (coreOp i).statusOnly = true ∧ receivedBytes i = none := by
      obtain rfl | ⟨code, rfl⟩ | hrow := hi
      · exact ⟨rfl, rfl⟩
      · exact ⟨rfl, rfl⟩
      · exact statusRows_coreOp i hrow
    obtain rfl | rfl := exec_next_cases i s t hop.2 ht
    · rfl
    · exact (coreOp i).statusOnly_frame s hop.1
  case checksum =>
    obtain rfl | ⟨b, rfl⟩ := hi <;> obtain rfl | rfl := exec_next_cases _ s t rfl ht <;> rfl

/-! ### ENC and the rows that are an ENC -/

theorem Memory.read_of_not_mem (m : Memory) (a : Nat) (h : a ∉ m.map Prod.fst) : Memory.read m a = none := by
  induction m with
  | nil => rfl
  | cons c m ih =>
    obtain ⟨hne, hmem⟩ := not_or.1 (List.mem_cons.not.1 h)
    rw [Memory.read, if_neg (Ne.symm hne), ih hmem]

/-- No offset above 7 of the transmit buffer is listed (R10, R41). -/
theorem txOk_read_beyond (s : State) (h : s.txOk) (a : Nat) (ha : 7 < a) : Memory.read s.txbuf a = none := by
  apply Memory.read_of_not_mem
  obtain ⟨hnil, -⟩ | ⟨hcells, -⟩ := h
  · simp [hnil]
  · rw [hcells, List.mem_range]
    omega

/-- An instruction whose core operation is an ENC and that loads nothing writes what ENC writes (R26). -/
theorem exec_enc_frame (i : Instr) (s t : State) (hs : s.Inv)
    (hi : (∃ cmd param, coreOp i = .enc cmd param) ∧ receivedBytes i = none) (ht : exec i s = .next t) :
    t = { s with
      status := t.status, ok := t.ok, rej := t.rej, txbuf := t.txbuf, txlen := t.txlen, rplen := t.rplen,
      acc := t.acc } ∧
    ∀ a, 7 < a → Memory.read t.txbuf a = Memory.read s.txbuf a := by
  obtain ⟨⟨cmd, param, hop⟩, hn⟩ := hi
  refine ⟨?frame, fun a ha => ?beyond⟩
  case frame =>
    obtain rfl | rfl := exec_next_cases i s t hn ht
    · rfl
    · rw [hop]
      exact enc_frame cmd param s
  case beyond => rw [txOk_read_beyond s hs.tx a ha, txOk_read_beyond t (exec_inv i s t ht hs).tx a ha]

/-- Settles O53: each of the rows is an ENC that loads nothing. -/
theorem encodeOperationsFrame : Obligations.EncodeOperationsFrame := by
  intro i s t hs hi ht
  refine exec_enc_frame i s t hs ?_ ht
  obtain ⟨cmd, param, rfl⟩ | hi | ⟨rate, rfl⟩ | ⟨baud, rfl⟩ | ⟨addr, rfl⟩ | ⟨c, hi⟩ | ⟨p0, p1, c, rfl⟩ |
    ⟨p0, p1, p2, p3, c, rfl⟩ | ⟨p0, c, rfl⟩ := hi
  case inr.inl | inr.inr.inr.inr.inr.inl => fin_cases hi <;> exact ⟨⟨_, _, rfl⟩, rfl⟩
  all_goals exact ⟨⟨_, _, rfl⟩, rfl⟩

/-! ### DECD, DECR and the received frames -/

/-- Settles O54: turned away or run, DECD and DECR have their frames. -/
theorem decodeOperationsFrame : Obligations.DecodeOperationsFrame := by
  intro s t
  refine ⟨fun ht => ?decd, fun cmd ht => ?decr⟩
  case decd =>
    obtain rfl | rfl := exec_next_cases .decd s t rfl ht
    · rfl
    · exact decd_frame s
  case decr =>
    obtain rfl | rfl := exec_next_cases (.decr cmd) s t rfl ht
    · rfl
    · exact decr_frame cmd s

/-- The bytes of a well-formed received frame fit the nine receive cells (R67 (e), R70 to R74). -/
theorem receivedBytes_length (i : Instr) (bs : List Byte) (hw : i.wellFormed = true) (h : receivedBytes i = some bs) :
    bs.length ≤ 9 := by
  cases i with
  | replyEcho | replyVersion | replyPassfail =>
    cases h
    simp only [Instr.wellFormed, decide_eq_true_eq] at hw
    simp only [List.length_append, List.length_cons, List.length_nil]
    omega
  | dataFrame => cases h; exact Nat.le_refl 9
  | _ => cases h

/-- A received frame is a reply that DECR decodes, or the data frame that DECD decodes (R80, R81). -/
theorem coreOp_of_receivedBytes (i : Instr) (bs : List Byte) (h : receivedBytes i = some bs) :
    (∃ cmd, answersCommand i = some cmd ∧ coreOp i = .decr cmd) ∨ (answersCommand i = none ∧ coreOp i = .decd) := by
  cases i with
  | replyEcho cmd | replyVersion cmd | replyPassfail cmd => exact .inl ⟨cmd, rfl, rfl⟩
  | dataFrame => exact .inr ⟨rfl, rfl⟩
  | _ => cases h

/-- Past the load of a received frame its decode leaves the receive buffer alone (R26). -/
theorem exec_received_rxbuf (i : Instr) (bs : List Byte) (s t : State) (h : receivedBytes i = some bs)
    (ht : exec i s = .next t) : t.rxbuf = (s.loadRx bs).rxbuf := by
  rw [exec_received i bs s h] at ht
  obtain rfl := Host.Outcome.next.inj ht
  obtain ⟨-, hadm⟩ | ⟨-, hadm⟩ := admitted_cases (coreOp i).run (s.loadRx bs) <;> rw [hadm]
  obtain ⟨cmd, -, hop⟩ | ⟨-, hop⟩ := coreOp_of_receivedBytes i bs h <;> rw [hop]
  · exact (congrArg State.rxbuf (decr_frame cmd _) :)
  · exact (congrArg State.rxbuf (decd_frame _) :)

/-- The load of bytes that fit leaves the cells behind them alone (R187). -/
theorem read_loadRx_beyond (s : State) (bs : List Byte) (h : bs.length ≤ 9) (a : Nat) (ha : bs.length ≤ a) :
    Memory.read (s.loadRx bs).rxbuf a = Memory.read s.rxbuf a := by
  rw [State.loadRx_rxbuf, s.read_rxWriteFrom 0 bs (by omega), if_neg (by omega)]

/-- Settles O55: the cells are the load's, and past the load the row is a DECR or a DECD, admitted. -/
theorem receivedFramesFrame : Obligations.ReceivedFramesFrame := by
  intro i bs s t hw hbs ht
  refine ⟨fun a ha => ?cells, ?fields⟩
  case cells =>
    rw [exec_received_rxbuf i bs s t hbs ht]
    exact read_loadRx_beyond s bs (receivedBytes_length i bs hw hbs) a ha
  case fields =>
    obtain ⟨rxbuf, rxlen, rfl⟩ := exec_next_admitted i s t ht
    have hadm := admitted_cases (coreOp i).run { s with rxbuf := rxbuf, rxlen := rxlen }
    obtain ⟨cmd, hanswers, hop⟩ | ⟨hanswers, hop⟩ := coreOp_of_receivedBytes i bs hbs <;>
      rw [hop, CoreOp.run] at hadm ⊢ <;> rw [hanswers]
    · refine ⟨fun _ _ => ?_, nofun⟩
      obtain ⟨-, hrun⟩ | ⟨-, hrun⟩ := hadm <;> rw [hrun]
      rw [decr_frame]
    · refine ⟨nofun, fun _ => ?_⟩
      obtain ⟨-, hrun⟩ | ⟨-, hrun⟩ := hadm <;> rw [hrun]
      rw [decd_frame]

/-! ### The recovery -/

/-- Settles O56: the two operations have their frames, and a step of the FSM its own. -/
theorem recoveryFrames : Obligations.RecoveryFrames := by
  refine ⟨fun i s t hi ht => ?accept, fun s t rest hb hin ht => ?step⟩
  case accept =>
    obtain ⟨bus, rfl⟩ | rfl := hi
    · obtain rfl | rfl := exec_next_cases (.recover bus) s t rfl ht
      · rfl
      · exact recover_frame bus s
    · obtain rfl | rfl := exec_next_cases .recoverAll s t rfl ht
      · rfl
      · exact recoverAll_frame s
  case step =>
    obtain ⟨hsilent, htail⟩ : (s.inbox = [] ∨ ∃ rest, s.inbox = .idle :: rest) ∧ s.inbox.tail = rest := by
      obtain ⟨hnil, rfl⟩ | hcons := hin
      · exact ⟨.inl hnil, by rw [hnil, List.tail_nil]⟩
      · exact ⟨.inr ⟨rest, hcons⟩, by rw [hcons, List.tail_cons]⟩
    rw [step_fsm s hb hsilent, htail] at ht
    obtain rfl := Host.Outcome.next.inj ht
    exact fsmStep_frame { s with inbox := rest }

end Sys2Proof.Machine
end

section
/-! ENC: the bytes of `param` it looks at, the cells behind its frame, and the frames of the eight commands of the default
table (20_memory.md R41, 41_frame_encoder.md R103, R110 to R117). -/

namespace Sys2Proof.Machine

/-! ### The bytes above the width -/

/-- Words equal modulo a power of 256 have equal bytes below it (R49). -/
theorem byteK_eq_of_mod (p q : Word) (n j : Nat) (hj : j < n) (h : p.toNat % 2 ^ (8 * n) = q.toNat % 2 ^ (8 * n)) :
    byteK j p = byteK j q := by
  have hsplit : 2 ^ (8 * n) = 2 ^ (8 * j) * (256 * 256 ^ (n - j - 1)) := by
    rw [show (256 : Nat) = 2 ^ 8 from rfl, ← Nat.pow_mul, ← Nat.pow_add, ← Nat.pow_add]
    congr 1
    omega
  have hbyte (w : Word) : (byteK j w).toNat = w.toNat % 2 ^ (8 * n) / 2 ^ (8 * j) % 256 := by
    rw [byteK_toNat, hsplit, Nat.mod_mul_right_div_self, Nat.mod_mul_right_mod]
  apply BitVec.eq_of_toNat_eq
  rw [hbyte p, hbyte q, h]

theorem commandBody_eq_of_mod (row : CmdRow) (p q : Word)
    (h : p.toNat % 2 ^ (8 * row.pw) = q.toNat % 2 ^ (8 * row.pw)) : commandBody row p = commandBody row q := by
  have hparam : paramBytes row p = paramBytes row q := by
    cases hsrc : row.psrc with
    | none | inline => simp only [paramBytes, hsrc]
    | ext =>
      simp only [paramBytes, hsrc]
      exact List.map_congr_left fun j hj => byteK_eq_of_mod p q row.pw j (List.mem_range.1 hj) h
  rw [commandBody, commandBody, hparam]

/-- Settles O25: ENC of a row succeeds with the frame's body, and the body is that of the low bytes. -/
theorem encIgnoresHighParameterBytes : Obligations.EncIgnoresHighParameterBytes := by
  intro row p q s hw hr hb
  refine ⟨⟨_, encBuildsFrame row p s hw hr hb, rfl⟩, fun h => ?_⟩
  rw [encBuildsFrame row p s hw hr hb, encBuildsFrame row q s hw hr hb, commandBody_eq_of_mod row p q h]

/-! ### The cells behind the frame -/

/-- A buffer loaded from offset 0 with zeros behind `front` reads zero behind it. -/
theorem txRdata_zeros (t : State) (front : List Byte) (n : Nat)
    (ht : t.txbuf = Memory.ofBytes 0 (front ++ List.replicate n 0)) (a : BitVec 3) (hlow : front.length ≤ a.toNat)
    (hhigh : a.toNat < front.length + n) : txRdata t a = 0 := by
  have hread := txRdata_ofBytes t _ ht a.toNat a.isLt (by simpa using hhigh)
  rw [BitVec.ofNat_toNat, BitVec.setWidth_eq] at hread
  rw [hread, List.getElem_append_right hlow, List.getElem_replicate]

/-- Settles O26: a rejected ENC leaves eight zeros, and the frame of a row is padded with zeros to eight cells. -/
theorem cellsBeyondFrameReadZero : Obligations.CellsBeyondFrameReadZero := by
  intro cmd param s t hw hb ht a ha
  obtain rfl := eq_run_of_exec_next _ s t rfl hb ht
  have ha8 : a.toNat < 8 := a.isLt
  obtain h | ⟨row, hrow, -, h⟩ := enc_cases cmd param s hw
  · exact txRdata_zeros _ [] 8 (congrArg State.txbuf h) a (Nat.zero_le _) (by simpa using ha8)
  · have hbody := commandBody_length_lt s.cfg hw row hrow param
    have hlen : (enc cmd param s).txlen.toNat = (commandBody row param).length + 1 := by
      rw [h, State.encoded, BitVec.toNat_ofNat, Nat.mod_eq_of_lt (by omega)]
    refine txRdata_zeros _ (commandBody row param ++ [csum8 (commandBody row param)]) _ (congrArg State.txbuf h) a ?_ ?_
    · rw [List.length_append, List.length_singleton, ← hlen]
      exact ha
    · rw [List.length_append, List.length_singleton]
      omega

/-! ### The commands of the default table -/

/-- The default table passes R67. -/
theorem wellFormed_of_default (c : Config) (h : c.cmdTable = Config.defaultTable) : c.wellFormed = true := by
  rw [Config.wellFormed, h]
  decide

/-- ENC of a row of the default table, as the cells, the length, the checksum and the reply length it leaves (R100). -/
theorem enc_default (s : State) (ht : s.cfg.cmdTable = Config.defaultTable) (row : CmdRow)
    (hr : row ∈ Config.defaultTable) (param : Word) (body : List Byte) (sum : Byte)
    (hbody : commandBody row param = body) (hsum : csum8 body = sum) :
    enc row.word param s =
      s.holdsFrame (padTo8 (body ++ [sum])) (BitVec.ofNat 4 row.len) sum (byteK 0 row.word) := by
  have hw := wellFormed_of_default s.cfg ht
  rw [← ht] at hr
  rw [enc_row s hw row hr, ← commandBody_length s.cfg hw row hr param, ← hsum, ← hbody]
  rfl

section
variable (s : State) (ht : s.cfg.cmdTable = Config.defaultTable)
include ht

theorem enc_getFirmwareVersion (param : Word) :
    enc 0x00010407 param s = s.holdsFrame [0x5A, 0x04, 0x01, 0x5F, 0, 0, 0, 0] 4 0x5F 7 :=
  enc_default s ht ⟨"GET_FIRMWARE_VERSION", 0x00010407, 0, .none, .version⟩ (by decide) param _ _ rfl rfl

theorem enc_softReset (param : Word) :
    enc 0x00020405 param s = s.holdsFrame [0x5A, 0x04, 0x02, 0x60, 0, 0, 0, 0] 4 0x60 5 :=
  enc_default s ht ⟨"SOFT_RESET", 0x00020405, 0, .none, .passFail⟩ (by decide) param _ _ rfl rfl

theorem enc_hardReset (param : Word) :
    enc 0x00100405 param s = s.holdsFrame [0x5A, 0x04, 0x10, 0x6E, 0, 0, 0, 0] 4 0x6E 5 :=
  enc_default s ht ⟨"HARD_RESET", 0x00100405, 0, .none, .passFail⟩ (by decide) param _ _ rfl rfl

theorem enc_saveSettings (param : Word) :
    enc 0x00110405 param s = s.holdsFrame [0x5A, 0x04, 0x11, 0x6F, 0, 0, 0, 0] 4 0x6F 5 :=
  enc_default s ht ⟨"SAVE_SETTINGS", 0x00110405, 0, .none, .passFail⟩ (by decide) param _ _ rfl rfl

theorem enc_i2cFormatCm (param : Word) :
    enc 0x01000500 param s = s.holdsFrame [0x5A, 0x05, 0x00, 0x01, 0x60, 0, 0, 0] 5 0x60 0 :=
  enc_default s ht ⟨"I2C_FORMAT_CM", 0x01000500, 1, .inline, .none⟩ (by decide) param _ _ rfl rfl

/-- R114: the two low bytes of the parameter, and the header's sum 0x63. -/
theorem enc_setFrameRate (b0 b1 b2 b3 : Byte) :
    enc 0x00030606 (word32 b0 b1 b2 b3) s =
      s.holdsFrame [0x5A, 0x06, 0x03, b0, b1, 0x63 + b0 + b1, 0, 0] 6 (0x63 + b0 + b1) 6 := by
  have hbody (w : Word) : commandBody ⟨"SET_FRAME_RATE", 0x00030606, 2, .ext, .echo⟩ w =
      [0x5A, 0x06, 0x03, byteK 0 w, byteK 1 w] := rfl
  have hword := hbody (word32 b0 b1 b2 b3)
  rw [byteK_zero_word32, byteK_one_word32] at hword
  exact enc_default s ht _ (by decide) _ _ _ hword (by simp only [csum8_cons, csum8_nil]; ring)

/-- R115: the four bytes of the parameter, and the header's sum 0x68. -/
theorem enc_setBaudRate (b0 b1 b2 b3 : Byte) :
    enc 0x00060808 (word32 b0 b1 b2 b3) s =
      s.holdsFrame [0x5A, 0x08, 0x06, b0, b1, b2, b3, 0x68 + b0 + b1 + b2 + b3] 8 (0x68 + b0 + b1 + b2 + b3) 8 := by
  have hbody (w : Word) : commandBody ⟨"SET_BAUD_RATE", 0x00060808, 4, .ext, .echo⟩ w =
      [0x5A, 0x08, 0x06, byteK 0 w, byteK 1 w, byteK 2 w, byteK 3 w] := rfl
  have hword := hbody (word32 b0 b1 b2 b3)
  rw [byteK_zero_word32, byteK_one_word32, byteK_two_word32, byteK_three_word32] at hword
  exact enc_default s ht _ (by decide) _ _ _ hword (by simp only [csum8_cons, csum8_nil]; ring)

/-- R116: the low byte of the parameter, and the header's sum 0x6A. -/
theorem enc_setI2cAddress (b0 b1 b2 b3 : Byte) :
    enc 0x100B0505 (word32 b0 b1 b2 b3) s =
      s.holdsFrame [0x5A, 0x05, 0x0B, b0, 0x6A + b0, 0, 0, 0] 5 (0x6A + b0) 5 := by
  have hbody (w : Word) : commandBody ⟨"SET_I2C_ADDRESS", 0x100B0505, 1, .ext, .echo⟩ w =
      [0x5A, 0x05, 0x0B, byteK 0 w] := rfl
  have hword := hbody (word32 b0 b1 b2 b3)
  rw [byteK_zero_word32] at hword
  exact enc_default s ht _ (by decide) _ _ _ hword (by simp only [csum8_cons, csum8_nil]; ring)

end

/-! ### The rows -/

/-- A byte put below a value is added to 256 times it. -/
theorem toNat_append_byte {n : Nat} (x : BitVec n) (b : Byte) : (x ++ b).toNat = x.toNat * 256 + b.toNat := by
  rw [BitVec.toNat_append, ← Nat.shiftLeft_add_eq_or_of_lt b.isLt, Nat.shiftLeft_eq]

/-- The operand of SET_FRAME_RATE on the port: the bytes above it are 0 (R63). -/
theorem le16_setWidth (lo hi : Byte) : (le16 lo hi).setWidth 32 = word32 lo hi 0 0 := by
  apply BitVec.eq_of_toNat_eq
  simp only [BitVec.toNat_setWidth, le16, word32, toNat_append_byte, show (0 : Byte).toNat = 0 from rfl]
  omega

/-- The operand of SET_I2C_ADDRESS on the port: the bytes above it are 0 (R63). -/
theorem byte_setWidth (b : Byte) : b.setWidth 32 = word32 b 0 0 0 := by
  apply BitVec.eq_of_toNat_eq
  simp only [BitVec.toNat_setWidth, word32, toNat_append_byte, show (0 : Byte).toNat = 0 from rfl]
  omega

/-- The low half of a word is its two low bytes (R47). -/
theorem extractLsb'_word32_half (b0 b1 b2 b3 : Byte) : (word32 b0 b1 b2 b3).extractLsb' 0 16 = le16 b0 b1 := by
  apply BitVec.eq_of_toNat_eq
  simp only [BitVec.extractLsb'_toNat, Nat.shiftRight_zero, le16, word32, toNat_append_byte]
  omega

/-- Settles O27: the decoder ignores `param`, and each row is the ENC of its word. -/
theorem constantCommandFrames : Obligations.ConstantCommandFrames := by
  refine ⟨fun _ => ⟨rfl, rfl, rfl, rfl, rfl⟩, fun s ht hb => ?_⟩
  have hrun (i : Instr) (hn : receivedBytes i = none) := exec_free i s hn hb
  rw [hrun _ rfl, hrun _ rfl, hrun _ rfl, hrun _ rfl, hrun _ rfl]
  exact ⟨congrArg _ (enc_getFirmwareVersion s ht 0), congrArg _ (enc_softReset s ht 0),
    congrArg _ (enc_hardReset s ht 0), congrArg _ (enc_saveSettings s ht 0), congrArg _ (enc_i2cFormatCm s ht 0)⟩

/-- Settles O28: the decoder takes the low bytes, and each row is the ENC of its word with its operand on the port. -/
theorem parameterCommandFrames : Obligations.ParameterCommandFrames := by
  refine ⟨fun b0 b1 b2 b3 => ⟨?rate, rfl, ?address⟩, fun s ht hb => ⟨fun lo hi => ?setFrameRate,
    fun b0 b1 b2 b3 => ?setBaudRate, fun addr => ?setI2cAddress⟩⟩
  case rate => exact congrArg Instr.setFrameRate (extractLsb'_word32_half b0 b1 b2 b3)
  case address => exact congrArg Instr.setI2cAddress (byteK_zero_word32 b0 b1 b2 b3)
  case setFrameRate =>
    rw [exec_free _ s rfl hb, coreOp, CoreOp.run, le16_setWidth, enc_setFrameRate s ht]
  case setBaudRate =>
    rw [exec_free _ s rfl hb, coreOp, CoreOp.run, enc_setBaudRate s ht]
  case setI2cAddress =>
    rw [exec_free _ s rfl hb, coreOp, CoreOp.run, byte_setWidth, enc_setI2cAddress s ht]

/-- Settles O29: a frame row runs the ENC of its command, which no checksum byte enters. -/
theorem commandFrameRowsBuildTheirFrame : Obligations.CommandFrameRowsBuildTheirFrame := by
  intro s c ht hb
  have hrun (i : Instr) (cmd param : Word) (hi : coreOp i = .enc cmd param ∧ receivedBytes i = none) :
      exec i s = .next (enc cmd param s) := by
    rw [exec_free i s hi.2 hb, hi.1]
    rfl
  refine ⟨?_, ?_, ?_, ?_, ?_, fun p0 p1 => ?_, fun p0 p1 p2 p3 => ?_, fun p0 => ?_⟩ <;> rw [hrun _ _ _ ⟨rfl, rfl⟩]
  · rw [enc_getFirmwareVersion s ht]
  · rw [enc_softReset s ht]
  · rw [enc_hardReset s ht]
  · rw [enc_saveSettings s ht]
  · rw [enc_i2cFormatCm s ht]
  · rw [enc_setFrameRate s ht]
  · rw [enc_setBaudRate s ht]
  · rw [enc_setI2cAddress s ht]

end Sys2Proof.Machine
end

section
/-! The status codes, the checksum of a sequence, and operations that are issued twice (20_memory.md R46, 40_checksum.md
R93, 42_frame_decoder.md R140, 44_session_contract.md R181, 60_exceptions.md R200, R201). -/

namespace Sys2Proof.Machine

/-- Settles O14: the numbering is a table of thirteen entries, and the codes of no status are those above 12. -/
theorem statusNumbering : Obligations.StatusNumbering := by
  refine ⟨⟨rfl, rfl, rfl, rfl, rfl, rfl, rfl, rfl, rfl, rfl, rfl, rfl, rfl⟩, fun st => ?_, ofCode_eq_none_iff⟩
  cases st <;> rfl

/-- Settles O16: an idle block runs the STSET of the row's code, whose entry of the numbering is looked up. -/
theorem statusCodesAreRecorded : Obligations.StatusCodesAreRecorded := by
  intro s hb
  have hrun (i : Instr) (code : Nibble) (hi : coreOp i = .stset code ∧ receivedBytes i = none) :
      exec i s = .next (stset code s) := by
    rw [exec_free i s hi.2 hb, hi.1]
    rfl
  exact ⟨hrun .stReady 0 ⟨rfl, rfl⟩, hrun .stSerialTimeout 1 ⟨rfl, rfl⟩, hrun .stHeaderNotFound 2 ⟨rfl, rfl⟩,
    hrun .stChecksumMismatch 3 ⟨rfl, rfl⟩, hrun .stDeviceTimeout 4 ⟨rfl, rfl⟩, hrun .stPass 5 ⟨rfl, rfl⟩,
    hrun .stFail 6 ⟨rfl, rfl⟩, hrun .stI2cReadError 7 ⟨rfl, rfl⟩, hrun .stI2cWriteError 8 ⟨rfl, rfl⟩,
    hrun .stI2cLengthError 9 ⟨rfl, rfl⟩, hrun .stWeakSignal 10 ⟨rfl, rfl⟩, hrun .stStrongSignal 11 ⟨rfl, rfl⟩,
    hrun .stAmbientFlood 12 ⟨rfl, rfl⟩, hrun .stReserved13 13 ⟨rfl, rfl⟩, hrun .stReserved14 14 ⟨rfl, rfl⟩,
    hrun .stReserved15 15 ⟨rfl, rfl⟩⟩

/-- Settles O38: the lookup finds no row, and that branch of DECR enters and rejects. -/
theorem decrRejectsUnknownWord : Obligations.DecrRejectsUnknownWord := by
  intro cmd s hb hword
  rw [exec_decr_free cmd s hb, decr_unknown cmd s (lookup_none s cmd hword)]
  rfl

/-! ### The checksum of a sequence -/

/-- An instruction that answers a next state is followed by the rest of the list. -/
theorem execAll_cons (i : Instr) (is : List Instr) (s t : State) (h : exec i s = .next t) :
    execAll (i :: is) s = execAll is t := by
  rw [execAll, h]

/-- A CSUM_ADD of each byte of a list adds the checksum of the list to ACC (R92, R93). -/
theorem execAll_csumAdd (l : List Byte) (s : State) (hb : s.busy = false) :
    execAll (l.map Instr.csumAdd) s = .next (s.setAcc (s.acc + csum8 l)) := by
  induction l generalizing s with
  | nil => rw [csum8_nil, add_zero]; rfl
  | cons b l ih =>
    have hadd : exec (.csumAdd b) s = .next (s.setAcc (s.acc + b)) := exec_free (.csumAdd b) s rfl hb
    rw [List.map_cons, execAll_cons _ _ s _ hadd, ih (s.setAcc (s.acc + b)) hb, csum8_cons, ← add_assoc]
    rfl

/-- Settles O19: CSUM_CLR leaves 0, to which the bytes are added one after the other. -/
theorem checksumOfSequence : Obligations.ChecksumOfSequence := by
  intro l s hb
  have hclear : exec .csumClr s = .next (s.setAcc 0) := exec_free .csumClr s rfl hb
  rw [execAll_cons _ _ s _ hclear, execAll_csumAdd l (s.setAcc 0) hb, State.setAcc_acc, zero_add]
  rfl

/-! ### Operations issued twice -/

/-- A core operation that leaves alone what it has left. -/
def CoreOp.Idempotent (op : CoreOp) : Prop :=
  ∀ s : State, (op.run s).busy = s.busy ∧ op.run (op.run s) = op.run s

theorem enc_idempotent (cmd param : Word) : (CoreOp.enc cmd param).Idempotent := by
  intro s
  refine ⟨(congrArg State.busy (enc_frame cmd param s) :), ?_⟩
  simp only [CoreOp.run]
  cases h : lookup s.cfg.cmdTable cmd with
  | none => rw [enc_unknown cmd param s h, enc_unknown cmd param s.enter.clearFrame.reject h]; rfl
  | some row =>
    rw [enc_known cmd param s row h]
    exact enc_known cmd param (s.enter.putFrame _ _ _ _) row h

theorem decd_idempotent : CoreOp.decd.Idempotent := by
  intro s
  refine ⟨(congrArg State.busy (decd_frame s) :), ?_⟩
  simp only [CoreOp.run]
  by_cases hlen : s.rxlen = 9
  case neg => rw [decd_length s hlen]; exact decd_length (s.enter.undefFields.fail _) hlen
  by_cases hsum : csum8 (rxRange s 8) = rxRead s 8
  case neg =>
    rw [decd_checksum s hlen hsum]
    exact decd_checksum ((s.enter.setAcc _).undefFields.fail _) hlen hsum
  rw [decd_fields s hlen hsum, decodeFields_entered]
  exact (decd_fields _ (by exact hlen) (by exact hsum)).trans (decodeFields_entered _ _)

theorem decodePayload_idempotent (kind : ReplyKind) (s : State) (c : Byte) :
    decodePayload kind ((decodePayload kind (s.enter.setAcc c)).enter.setAcc c) =
      decodePayload kind (s.enter.setAcc c) := by
  cases kind with
  | version | echo | none => rfl
  | passFail => rw [decodePayload_passFail, decodePayload_passFail]; rfl

theorem decr_idempotent (cmd : Word) : (CoreOp.decr cmd).Idempotent := by
  intro s
  refine ⟨(congrArg State.busy (decr_frame cmd s) :), ?_⟩
  simp only [CoreOp.run]
  cases h : lookup s.cfg.cmdTable cmd with
  | none => rw [decr_unknown cmd s h]; exact decr_unknown cmd s.enter.reject h
  | some row =>
    by_cases hnone : row.kind = .none
    · rw [decr_noReply cmd s row h hnone]; exact decr_noReply cmd s.enter row h hnone
    by_cases hlen : s.rxlen.toNat = (byteK 0 cmd).toNat
    case neg =>
      rw [decr_length cmd s row h hnone hlen]
      exact decr_length cmd (s.enter.fail _) row h hnone hlen
    by_cases hsum : csum8 (rxRange s ((byteK 0 cmd).toNat - 1)) = rxRead s ((byteK 0 cmd).toNat - 1)
    case neg =>
      rw [decr_checksum cmd s row h hnone hlen hsum]
      exact decr_checksum cmd ((s.enter.setAcc _).fail _) row h hnone hlen hsum
    have hagain := decodePayload_idempotent row.kind s (csum8 (rxRange s ((byteK 0 cmd).toNat - 1)))
    obtain ⟨_, _, _, _, hpayload⟩ := decodePayload_frame row.kind s (csum8 (rxRange s ((byteK 0 cmd).toNat - 1)))
    rw [decr_payload cmd s row h hnone hlen hsum]
    rw [hpayload] at hagain ⊢
    exact (decr_payload cmd _ row (by exact h) hnone (by exact hlen) (by exact hsum)).trans hagain

theorem stset_idempotent (code : Nibble) : (CoreOp.stset code).Idempotent := by
  intro s
  refine ⟨(congrArg State.busy (stset_frame code s) :), ?_⟩
  simp only [CoreOp.run, stset]
  cases Status.ofCode code <;> rfl

/-- Turned away twice, or run twice: an instruction with such an operation answers the state it left. -/
theorem exec_twice (i : Instr) (s t : State) (hn : receivedBytes i = none) (hop : (coreOp i).Idempotent)
    (h : exec i s = .next t) : exec i t = .next t := by
  rw [exec_eq, hn] at h ⊢
  obtain rfl := Host.Outcome.next.inj h
  obtain ⟨hbusy, htwice⟩ := hop s
  obtain ⟨hb, hadm⟩ | ⟨hb, hadm⟩ := admitted_cases (coreOp i).run s <;> simp only [hadm]
  rw [admitted_free _ _ (hbusy.trans hb), htwice]

/-- Settles O58: each of the six operations is idempotent. -/
theorem repeatedOperationsAreIdempotent : Obligations.RepeatedOperationsAreIdempotent := by
  intro i s t hi ht
  obtain hi | ⟨cmd, param, rfl⟩ | ⟨cmd, rfl⟩ | ⟨code, rfl⟩ := hi
  · fin_cases hi
    · exact exec_twice .nop s t rfl (fun _ => ⟨rfl, rfl⟩) ht
    · exact exec_twice .csumClr s t rfl (fun _ => ⟨rfl, rfl⟩) ht
    · exact exec_twice .decd s t rfl decd_idempotent ht
  · exact exec_twice _ s t rfl (enc_idempotent cmd param) ht
  · exact exec_twice _ s t rfl (decr_idempotent cmd) ht
  · exact exec_twice _ s t rfl (stset_idempotent code) ht

end Sys2Proof.Machine
end

section
/-! The receive buffer: the host's write ports and the load of a received frame (20_memory.md R42, 44_session_contract.md
R187), and what the decode of a loaded frame leaves (30_encoding.md R71 to R75, 42_frame_decoder.md R130, R140). -/

namespace Sys2Proof.Machine

/-! ### The write ports -/

theorem hostWrite_cell (s : State) (addr : Nibble) (data : Byte) (h : addr.toNat ≤ 8) :
    s.hostWrite (.cell addr data) = { s with rxbuf := Memory.write s.rxbuf addr.toNat data } :=
  if_pos h

theorem hostWrite_ignored (s : State) (addr : Nibble) (data : Byte) (h : 8 < addr.toNat) :
    s.hostWrite (.cell addr data) = s :=
  if_neg (by omega)

/-- Settles O30: the step is the write of the port, and a cell written is read back while the others keep their byte. -/
theorem hostWritesReceiveBuffer : Obligations.HostWritesReceiveBuffer := by
  intro s rest addr data n
  have hstep (w : HostWrite) (hin : s.inbox = .write w :: rest) :
      step s = .next { { s with inbox := rest }.hostWrite w with done := false } := step_event s _ rest hin
  refine ⟨fun hin hle => ?cell, fun hin hgt => ?ignored, hstep (.length n)⟩
  case cell =>
    rw [hstep _ hin, hostWrite_cell _ addr data hle]
    exact ⟨_, rfl, Memory.read_write_same _ _ _, fun a ha => Memory.read_write_ne _ _ _ _ ha, rfl⟩
  case ignored => rw [hstep _ hin, hostWrite_ignored _ addr data hgt]

/-! ### The load -/

/-- `RXLEN` holds the number of bytes loaded (R187). -/
theorem loadRx_rxlen_toNat (s : State) (bs : List Byte) (h : bs.length ≤ 9) :
    (s.loadRx bs).rxlen.toNat = bs.length := by
  rw [State.loadRx_rxlen, BitVec.toNat_ofNat, Nat.mod_eq_of_lt (by omega)]

/-- Settles O31: what a cell reads after the load has its lemma, and the load writes the buffer and `RXLEN` alone. -/
theorem loadPlacesReceivedBytes : Obligations.LoadPlacesReceivedBytes := by
  intro bs s h
  refine ⟨loadRx_rxlen_toNat s bs h, fun k hk => ?placed, read_loadRx_beyond s bs h, ?frame⟩
  case placed => rw [State.loadRx_rxbuf, s.read_rxWriteFrom 0 bs (by omega), if_pos (by omega), Nat.sub_zero]
  case frame => rw [s.loadRx_eq bs]

section
variable (s : State) (body : List Byte) (c : Byte) (h : body.length ≤ 8)
include h

/-- A byte of the frame before its last, where the decode reads it. -/
theorem rxRead_loadRx_body (a : Nat) (ha : a < body.length) :
    rxRead (s.loadRx (body ++ [c])) a = body.getD a 0 := by
  rw [rxRead_loadRx _ _ (by simp; omega), dif_pos (by simp; omega), List.getElem_append_left ha]
  simp [ha]

/-- The last byte of the frame, where the decode reads the checksum (R70). -/
theorem rxRead_loadRx_last : rxRead (s.loadRx (body ++ [c])) body.length = c := by
  rw [rxRead_loadRx _ _ (by simp; omega), dif_pos (by simp)]
  simp

end

/-! ### The data frame -/

/-- Settles O37: past the load DECD reads the nine bytes in their places. -/
theorem dataFrameIsLoadedAndDecoded : Obligations.DataFrameIsLoadedAndDecoded := by
  intro h0 h1 dl dh fl fh tl th c s hb frame
  have hload : exec (.dataFrame h0 h1 dl dh fl fh tl th c) s = exec .decd (s.loadRx (frame ++ [c])) := rfl
  have hfree : (s.loadRx (frame ++ [c])).busy = false := (State.loadRx_busy s _).trans hb
  have hlen : (s.loadRx (frame ++ [c])).rxlen = 9 := State.loadRx_rxlen s _
  have hrange : rxRange (s.loadRx (frame ++ [c])) 8 = frame := rxRange_loadRx s frame c (Nat.le_refl 8)
  have hlast : rxRead (s.loadRx (frame ++ [c])) 8 = c := rxRead_loadRx_last s frame c (Nat.le_refl 8)
  have hread (a : Nat) (ha : a < 8) : rxRead (s.loadRx (frame ++ [c])) a = frame.getD a 0 :=
    rxRead_loadRx_body s frame c (Nat.le_refl 8) a ha
  rw [hload]
  refine ⟨fun hsum => ?passes, fun hsum => ?fails⟩
  case passes =>
    rw [decdMeasurement _ hfree hlen (by rw [hrange, hlast, hsum]), hrange, ← hsum, hread 2 (by decide),
      hread 3 (by decide), hread 4 (by decide), hread 5 (by decide), hread 6 (by decide), hread 7 (by decide)]
    rfl
  case fails =>
    obtain ⟨-, hfails⟩ := decdFailures _ hfree
    rw [hfails hlen (by rw [hrange, hlast]; exact Ne.symm hsum), hrange]

/-! ### The replies -/

/-- What a reply row leaves in each case of R140 is what DECR leaves of its loaded bytes. -/
theorem replyRowOutcomes (i : Instr) (cmd : Word) (body : List Byte) (c : Byte)
    (hbytes : receivedBytes i = some (body ++ [c])) (hop : coreOp i = .decr cmd) (hbody : body.length ≤ 8) :
    ReplyRowOutcomes i cmd body c := by
  intro s hw hb t
  have hfree : t.busy = false := (State.loadRx_busy s _).trans hb
  have hcfg : t.cfg = s.cfg := State.loadRx_cfg s _
  have hlen : t.rxlen.toNat = body.length + 1 :=
    (loadRx_rxlen_toNat s _ (by simp; omega)).trans List.length_append
  have hrange : rxRange t body.length = body := rxRange_loadRx s body c hbody
  have hlast : rxRead t body.length = c := rxRead_loadRx_last s body c hbody
  have hread (a : Nat) (ha : a < body.length) : rxRead t a = body.getD a 0 := rxRead_loadRx_body s body c hbody a ha
  have hrun : exec i s = exec (.decr cmd) t := by
    rw [exec_received i _ s hbytes, hop, exec_decr_free cmd t hfree]
    exact congrArg Host.Outcome.next (admitted_free _ t hfree)
  rw [hrun]
  rw [← hcfg] at hw ⊢
  refine ⟨decrRejectsUnknownWord cmd t hfree, ?_⟩
  rintro row hr rfl
  have hdecodes (hk : row.kind ≠ .none) (hl : body.length + 1 = row.rpl) (hc : c = csum8 body) :=
    decrDecodesReply row t hw hr hk hfree (hlen.trans hl) (by rw [← hl, Nat.add_sub_cancel, hrange, hlast, hc])
  refine ⟨fun hk => decrWithoutReply row t hw hr hk hfree, fun hk hl => ?length, fun hk hl hc => ?checksum,
    fun hk hl hc => ?version, fun hk hl hc => ?passFail, fun hk hl hc => ?echo⟩
  case length => exact (decrWrongLength row t hw hr hk hfree).1 (by rwa [hlen])
  case checksum =>
    have hfails := decrWrongChecksum row t hw hr hk hfree (hlen.trans hl)
    rw [← hl, Nat.add_sub_cancel, hrange, hlast] at hfails
    exact hfails (Ne.symm hc)
  case version =>
    obtain ⟨hversion, -, -⟩ := hdecodes (by rw [hk]; decide) hl hc
    obtain ⟨-, -, -, hseven, -⟩ := decrWrongLength row t hw hr (by rw [hk]; decide) hfree
    have h7 := hseven hk
    rw [hversion hk, ← hl, Nat.add_sub_cancel, hrange, hread 5 (by omega), hread 4 (by omega), hread 3 (by omega)]
  case passFail =>
    obtain ⟨-, hpassFail, -⟩ := hdecodes (by rw [hk]; decide) hl hc
    obtain ⟨-, -, -, -, hfive⟩ := decrWrongLength row t hw hr (by rw [hk]; decide) hfree
    have h5 := hfive hk
    rw [hpassFail hk, ← hl, Nat.add_sub_cancel, hrange, hread 3 (by omega)]
  case echo =>
    obtain ⟨-, -, hecho⟩ := hdecodes (by rw [hk]; decide) hl hc
    rw [hecho hk, ← hl, Nat.add_sub_cancel, hrange]

/-- A reply of a row's length leaves room for its checksum in the receive buffer (R67 (e)). -/
theorem body_length_of_row (s : State) (hw : s.cfg.wellFormed = true) (row : CmdRow) (hr : row ∈ s.cfg.cmdTable)
    (body : List Byte) (h : body.length + 1 = row.rpl) : body.length ≤ 8 := by
  obtain ⟨-, -, -, -, -, hmax, -⟩ := CmdRow.facts s.cfg hw row hr
  omega

/-- Settles O43: a reply of the command's length fits, and its outcome is the one of its row. -/
theorem versionReplyIsDecoded : Obligations.VersionReplyIsDecoded := by
  refine ⟨?passes, fun cmd x0 x1 x2 patch minor major extra c hwf => ?outcomes⟩
  case passes =>
    intro row x0 x1 x2 patch minor major extra s hw hr hk hb hl body
    have hlen : body.length + 1 = row.rpl := by rw [← hl, List.length_append]; simp; omega
    obtain ⟨-, hrow⟩ := replyRowOutcomes (.replyVersion row.word x0 x1 x2 patch minor major extra (csum8 body)) row.word
      body _ rfl rfl (body_length_of_row s hw row hr body hlen) s hw hb
    obtain ⟨-, -, -, hversion, -⟩ := hrow row hr rfl
    exact hversion hk hlen rfl
  case outcomes =>
    refine replyRowOutcomes _ cmd _ c rfl rfl ?_
    simp only [Instr.wellFormed, decide_eq_true_eq] at hwf
    simp
    omega

/-- Settles O44: as for a version reply, the flag being the byte at offset 3. -/
theorem passFailReplyIsDecoded : Obligations.PassFailReplyIsDecoded := by
  refine ⟨?passes, fun cmd x0 x1 x2 flag extra c hwf => ?outcomes⟩
  case passes =>
    intro row x0 x1 x2 flag extra s hw hr hk hb hl body
    have hlen : body.length + 1 = row.rpl := by rw [← hl, List.length_append]; simp; omega
    obtain ⟨-, hrow⟩ := replyRowOutcomes (.replyPassfail row.word x0 x1 x2 flag extra (csum8 body)) row.word
      body _ rfl rfl (body_length_of_row s hw row hr body hlen) s hw hb
    obtain ⟨-, -, -, -, hpassFail, -⟩ := hrow row hr rfl
    exact hpassFail hk hlen rfl
  case outcomes =>
    refine replyRowOutcomes _ cmd _ c rfl rfl ?_
    simp only [Instr.wellFormed, decide_eq_true_eq] at hwf
    simp
    omega

/-- Settles O45: as for a version reply, the bytes before the checksum being free. -/
theorem echoReplyIsDecoded : Obligations.EchoReplyIsDecoded := by
  refine ⟨fun row body s hw hr hk hb hl => ?passes, fun cmd body c hwf => ?outcomes⟩
  case passes =>
    obtain ⟨-, hrow⟩ := replyRowOutcomes (.replyEcho row.word body (csum8 body)) row.word
      body _ rfl rfl (body_length_of_row s hw row hr body hl) s hw hb
    obtain ⟨-, -, -, -, -, hecho⟩ := hrow row hr rfl
    exact hecho hk hl rfl
  case outcomes =>
    simp only [Instr.wellFormed, decide_eq_true_eq] at hwf
    exact replyRowOutcomes _ cmd body c rfl rfl hwf.2

end Sys2Proof.Machine
end

section
/-! A whole recovery, of one bus and of both: 29 steps of the FSM for each (43_bus_recovery.md R163 to R170). -/

namespace Sys2Proof.Machine

/-! ### Runs -/

/-- A run goes on from the state its first part ends in. -/
theorem run_add (m n : Nat) (s t : State) (h : Host.Core.run Sys2Proof.core m s = .next t) :
    Host.Core.run Sys2Proof.core (m + n) s = Host.Core.run Sys2Proof.core n t := by
  induction m generalizing s with
  | zero =>
    obtain rfl : s = t := Host.Outcome.next.inj h
    rw [Nat.zero_add]
  | succ m ih =>
    rw [Nat.succ_add]
    simp only [Host.Core.run] at h ⊢
    cases hstep : Sys2Proof.core.step s with
    | next u =>
      rw [hstep] at h
      exact ih u h
    | fault | refused => rw [hstep] at h; cases h

theorem run_one (s t : State) (h : step s = .next t) : Host.Core.run Sys2Proof.core 1 s = .next t := by
  simp only [Host.Core.run]
  rw [show Sys2Proof.core.step s = .next t from h]

/-! ### A recovery in progress -/

/-- The state `n` steps into a recovery of the bus `b` that started from the idle state `s` (R163, R169). -/
def State.recovering (s : State) (b : Bus) (all : Bool) (n : Nat) (done : Bool) : State :=
  { s.setPins b (latchesAfter n) with
    busy := true, rstep := BitVec.ofNat 5 (n + 1), rbus := b, rall := all, done := done,
    trace := s.trace ++ (recoveryTrace b).take n }

/-- The state in which the event of step `n + 1` has been emitted, before the sequencing (R169). -/
def State.recoveringEmitted (s : State) (b : Bus) (all : Bool) (n : Nat) (done : Bool) : State :=
  { s.recovering b all (n + 1) done with rstep := BitVec.ofNat 5 (n + 1) }

section
variable (s : State) (b : Bus) (all : Bool) (n : Nat) (done : Bool)

theorem recovering_pins : (s.recovering b all n done).pins b = latchesAfter n := by
  cases b <;> rfl

theorem recovering_rstep (h : n < 29) : (s.recovering b all n done).rstep.toNat = n + 1 := by
  rw [State.recovering, BitVec.toNat_ofNat, Nat.mod_eq_of_lt (by omega)]

/-- The emission adds the row of the table to the trace and leaves its latches (R163). -/
theorem recovering_emitStep (h : n < 29) :
    (s.recovering b all n done).emitStep = s.recoveringEmitted b all n done := by
  obtain ⟨e, he⟩ := recoveryStep_some b (n + 1) (by omega) (by omega)
  have hrow : (recoveryTrace b)[n]? = some e := (recoveryTrace_getElem? b (n + 1) (by omega) (by omega)).trans he
  have hstep : recoveryStep (s.recovering b all n done).rbus (s.recovering b all n done).rstep.toNat = some e := by
    rw [recovering_rstep s b all n done h]
    exact he
  have hlatches : ((s.recovering b all n done).pins b).apply e.event = latchesAfter (n + 1) := by
    rw [recovering_pins]
    exact latchesAfter_apply b (n + 1) (by omega) (by omega) e he
  have htrace : (recoveryTrace b).take (n + 1) = (recoveryTrace b).take n ++ [e] := by
    rw [List.take_add_one, hrow]
    rfl
  rw [emitStep_eq _ e hstep, show (s.recovering b all n done).rbus = b from rfl, hlatches, State.recoveringEmitted,
    State.recovering, State.recovering, htrace, ← List.append_assoc]
  cases b <;> rfl

/-- With nothing presented the FSM emits the row of its step and sequences (R169). -/
theorem step_recovering (hin : s.inbox = []) (h : n < 29) :
    step (s.recovering b all n done) = .next (s.recoveringEmitted b all n done).advance := by
  have hinbox : (s.recovering b all n done).inbox = [] := (State.setPins_inbox s b _).trans hin
  have htail : { s.recovering b all n done with inbox := (s.recovering b all n done).inbox.tail } =
      s.recovering b all n done := by
    rw [hinbox, List.tail_nil, ← hinbox]
  rw [step_fsm _ rfl (.inl hinbox), htail, fsmStep, recovering_emitStep s b all n done h]

/-- Before the last step the FSM goes on to the next one (R169). -/
theorem step_recovering_next (hin : s.inbox = []) (h : n < 28) :
    step (s.recovering b all n done) = .next (s.recovering b all (n + 1) false) := by
  have hlt : (s.recoveringEmitted b all n done).rstep.toNat < 29 := by
    rw [State.recoveringEmitted, BitVec.toNat_ofNat, Nat.mod_eq_of_lt (by omega)]
    omega
  have hnext : BitVec.ofNat 5 (n + 1) + 1 = BitVec.ofNat 5 (n + 1 + 1) := (BitVec.ofNat_add (n + 1) 1).symm
  rw [step_recovering s b all n done hin (by omega), State.advance_next _ hlt, State.recoveringEmitted,
    State.recovering, State.recovering, hnext]

/-- A recovery is running after each of its first 28 steps (R163). -/
theorem run_recovering (hin : s.inbox = []) (h : n ≤ 28) :
    ∃ d, Host.Core.run Sys2Proof.core n (s.recovering b all 0 done) = .next (s.recovering b all n d) := by
  induction n with
  | zero => exact ⟨done, rfl⟩
  | succ n ih =>
    obtain ⟨d, hrun⟩ := ih (by omega)
    refine ⟨false, ?_⟩
    rw [run_add n 1 _ _ hrun]
    exact run_one _ _ (step_recovering_next s b all n d hin (by omega))

/-- 29 steps are the sequencing after the last emission (R163, R169). -/
theorem run_recovering_last (hin : s.inbox = []) :
    ∃ d, Host.Core.run Sys2Proof.core 29 (s.recovering b all 0 done) =
      .next (s.recoveringEmitted b all 28 d).advance := by
  obtain ⟨d, hrun⟩ := run_recovering s b all 28 done hin (Nat.le_refl 28)
  exact ⟨d, (run_add 28 1 _ _ hrun).trans (run_one _ _ (step_recovering s b all 28 d hin (by decide)))⟩

end

/-! ### The end of a recovery -/

/-- Where the latches are already those of the step, the recovery differs from its start in the FSM's registers and the
trace. -/
theorem recovering_of_pins (s : State) (b : Bus) (all : Bool) (n : Nat) (done : Bool)
    (h : s.pins b = latchesAfter n) :
    s.recovering b all n done =
      { s with
        busy := true, rstep := BitVec.ofNat 5 (n + 1), rbus := b, rall := all, done := done,
        trace := s.trace ++ (recoveryTrace b).take n } := by
  have hself : s.setPins b (latchesAfter n) = s := by
    rw [← h]
    cases b <;> rfl
  rw [State.recovering, hself]

section
variable (s : State) (hin : s.inbox = []) (hidle : ∀ b, s.pins b = PinLatches.idle)
include hidle

/-- An idle block is at the beginning of a recovery once the FSM's registers are set (R160, R166). -/
theorem recovering_zero (b : Bus) (all done : Bool) :
    s.recovering b all 0 done = { s with busy := true, rstep := 1, rbus := b, rall := all, done := done } := by
  rw [recovering_of_pins s b all 0 done (hidle b), List.take_zero, List.append_nil]
  rfl

theorem startRecovery_eq_recovering (b : Bus) (all : Bool) :
    s.startRecovery b all = s.enter.recovering b all 0 s.done := by
  rw [recovering_zero s.enter hidle]
  rfl

/-- After the last emission the latches are those of an idle block again, and the whole trace is out (R163, R164). -/
theorem recoveringEmitted_last (b : Bus) (all done : Bool) :
    s.recoveringEmitted b all 28 done =
      { s with
        busy := true, rstep := 29, rbus := b, rall := all, done := done, trace := s.trace ++ recoveryTrace b } := by
  have htrace : (recoveryTrace b).take 29 = recoveryTrace b := List.take_of_length_le (by cases b <;> decide)
  rw [State.recoveringEmitted, recovering_of_pins s b all 29 done (hidle b), htrace]
  rfl

/-- The end of a recovery of an idle block: the latches are as they were (R169, R170). -/
theorem recovered_of_idle (trace : List TraceEntry) :
    s.recovered trace =
      { s with rstep := 0, rbus := .bus0, rall := false, busy := false, done := true, trace := trace } := by
  have h0 : s.pins0 = PinLatches.idle := hidle .bus0
  have h1 : s.pins1 = PinLatches.idle := hidle .bus1
  rw [State.recovered, h0, h1]

include hin

/-- A recovery that no other follows ends idle, with `done` raised (R169). -/
theorem run_recovering_end (b : Bus) (all done : Bool) (hlast : all = false ∨ b = .bus1) :
    Host.Core.run Sys2Proof.core 29 (s.recovering b all 0 done) =
      .next (s.recovered (s.trace ++ recoveryTrace b)) := by
  obtain ⟨d, hrun⟩ := run_recovering_last s b all done hin
  rw [hrun, recoveringEmitted_last s hidle, State.advance_end _ rfl hlast, recovered_of_idle s hidle]

/-- The first of two recoveries is followed by the second (R169). -/
theorem run_recovering_firstBus (done : Bool) :
    Host.Core.run Sys2Proof.core 29 (s.recovering .bus0 true 0 done) =
      .next ({ s with trace := s.trace ++ recoveryTrace .bus0 }.recovering .bus1 true 0 false) := by
  obtain ⟨d, hrun⟩ := run_recovering_last s .bus0 true done hin
  rw [hrun, recoveringEmitted_last s hidle, State.advance_secondBus _ rfl rfl rfl,
    recovering_zero { s with trace := s.trace ++ recoveryTrace .bus0 } hidle]

end

/-! ### RECOVER and RECOVER_ALL -/

/-- Settles O49: RECOVER starts a recovery, which runs for 28 steps and ends with the 29th. -/
theorem recoverRunsToItsEnd : Obligations.RecoverRunsToItsEnd := by
  intro bus s hinv hb hin hfsm hbus
  have hidle := pins_idle s hinv.fsm hb
  have hexec : exec (.recover bus) s = .next (s.startRecovery (Bus.ofNumber bus) false) :=
    (exec_free (.recover bus) s rfl hb).trans
      (congrArg _ (recover_starts bus s hfsm ((busExists_iff s.cfg bus).2 hbus)))
  refine ⟨_, hexec, ?_, fun k hk => ?_⟩ <;> rw [startRecovery_eq_recovering s hidle]
  · exact run_recovering_end s.enter hin hidle _ false _ (.inl rfl)
  · obtain ⟨d, hrun⟩ := run_recovering s.enter (Bus.ofNumber bus) false k s.done hin (by omega)
    exact ⟨_, hrun, rfl⟩

/-- Settles O50: RECOVER_ALL starts a recovery of bus 0, which with two buses is followed by one of bus 1. -/
theorem recoverAllRunsToItsEnd : Obligations.RecoverAllRunsToItsEnd := by
  refine ⟨fun _ _ => rfl, fun s hb hfsm => ?rejected, fun s hinv hb hin hfsm => ?runs⟩
  case rejected => exact (exec_free .recoverAll s rfl hb).trans (congrArg _ (recoverAll_noFsm s hfsm))
  case runs =>
    have hidle := pins_idle s hinv.fsm hb
    have hstarts : recoverAll s = s.startRecovery .bus0 (s.cfg.nBuses == .two) := by simp [recoverAll, hfsm]
    refine ⟨_, (exec_free .recoverAll s rfl hb).trans (congrArg _ hstarts), rfl, fun hone => ?one, fun htwo => ?two⟩
    case one =>
      rw [startRecovery_eq_recovering s hidle, hone]
      exact run_recovering_end s.enter hin hidle _ _ _ (.inl rfl)
    case two =>
      rw [startRecovery_eq_recovering s hidle, htwo, ← List.append_assoc]
      have hsecond := run_recovering_end { s.enter with trace := s.trace ++ recoveryTrace .bus0 } hin hidle .bus1
        true false (.inr rfl)
      exact (run_add 29 29 _ _ (run_recovering_firstBus s.enter hin hidle s.done)).trans hsecond

/-- Settles O51: the trace of a bus and the table are lists of 29 entries. -/
theorem recoveryCounts : Obligations.RecoveryCounts := by
  intro b
  refine ⟨?length, fun n hn => ?row, ?modeOut, ?modeIn, ?data, ?clock, ?reinit, rfl⟩
  case row => exact (recoveryTrace_getElem? b (n + 1) (by omega) (by omega)).symm
  all_goals cases b <;> decide

end Sys2Proof.Machine
end

section
/-! The host's sequences: a write that fails ends an exchange, and the measurement follows its frame
(44_session_contract.md R183, R187 to R190). -/

namespace Sys2Proof.Machine

/-! ### Writes that fail (R183) -/

/-- An exchange that ends with a status of failure after its write asks for no reply and keeps the receive buffer. -/
theorem writeError_ends (t : State) (hb : t.busy = false) (code : Nibble) (st : Status)
    (hcode : Status.ofCode code = some st) (hst : st ≠ .ready) (address : Byte) (frame : List Byte) (stop : Bool)
    (bus : BusAnswer) (e : Exchange)
    (he : e = ⟨admitted (stset code) t, false, writeCalls address frame stop bus⟩) :
    e.success = false ∧ e.state.status = st ∧ e.state.ok = false ∧ e.state.rxbuf = t.rxbuf ∧
      e.state.rxlen = t.rxlen ∧ ∀ c ∈ e.calls, requestsRead c = false := by
  have hstset : stset code t = t.record st := by rw [stset, hcode]
  subst he
  rw [admitted_free _ t hb, hstset]
  exact ⟨rfl, rfl, beq_false_of_ne hst, rfl, rfl, writeCalls_noRequest address frame stop bus⟩

/-- Settles O59: ENC of the row succeeds with the row's length in `TXLEN`, and each failure of the write is one status. -/
theorem writeErrorsEndTheExchange : Obligations.WriteErrorsEndTheExchange := by
  intro row param address h bus s hw hr hb e
  have henc : admitted (enc row.word param) s = s.encoded (commandBody row param) (byteK 0 row.word) :=
    (admitted_free _ s hb).trans (enc_row s hw row hr param)
  have htxlen : (s.encoded (commandBody row param) (byteK 0 row.word)).txlen.toNat = row.len := by
    have hbody := commandBody_length s.cfg hw row hr param
    have h8 := commandBody_length_lt s.cfg hw row hr param
    rw [State.encoded, BitVec.toNat_ofNat, Nat.mod_eq_of_lt (by omega), hbody]
  refine ⟨fun hshort => ?short, fun hlong herror => ?failed⟩
  case short =>
    have hsent := sendCommand_shortWrite _ _ address h bus s _ henc rfl (by rwa [htxlen])
    exact writeError_ends (s.encoded _ _) hb 9 .i2cLengthError rfl (by decide) address _ h.writeStop bus e hsent
  case failed =>
    have hsent := sendCommand_failedWrite _ _ address h bus s _ henc rfl (by rwa [htxlen]) herror
    exact writeError_ends (s.encoded _ _) hb 8 .i2cWriteError rfl (by decide) address _ h.writeStop bus e hsent

/-! ### The format command of the default table (R188) -/

/-- The state after the ENC of the format command (R117). -/
def State.formatted (s : State) : State := s.holdsFrame [0x5A, 0x05, 0x00, 0x01, 0x60, 0, 0, 0] 5 0x60 0

/-- The calls of the write of the format command (R182). -/
def formatWrite (address : Byte) (h : HostChoice) (bus : BusAnswer) : List Call :=
  [Call.bus (.beginWrite address), .bus (.write [0x5A, 0x05, 0x00, 0x01, 0x60] bus.accepted),
    .bus (.endWrite h.writeStop bus.errorCode)]

section
variable (s : State) (ht : s.cfg.cmdTable = Config.defaultTable) (hb : s.busy = false) (address : Byte)
  (h : HostChoice) (bus : BusAnswer) (frame : List Byte)
include ht

theorem commandWord_format : commandWord s.cfg "I2C_FORMAT_CM" = some 0x01000500 := by
  rw [commandWord, ht]
  decide

include hb

theorem admitted_format : admitted (enc 0x01000500 0) s = s.formatted :=
  (admitted_free _ s hb).trans (enc_i2cFormatCm s ht 0)

/-- After a clean write, which no reply follows, the frame is read (R184, R188). -/
theorem getData_cleanWrite (ha : 5 ≤ bus.accepted) (he : bus.errorCode = 0) :
    getData address h bus frame s = readFrame address h.frame frame ⟨s.formatted, true, formatWrite address h bus⟩ :=
  getData_read address h bus frame s _ (commandWord_format s ht) _
    (sendCommand_noReply _ _ address h bus s _ (admitted_format s ht hb) rfl ha he rfl) rfl

/-- A write that is short, or else fails, ends the sequence with its status (R183, R188). -/
theorem getData_writeError (hfail : bus.accepted < 5 ∨ bus.errorCode ≠ 0) :
    getData address h bus frame s =
      ⟨⟨s.formatted.record (if bus.accepted < 5 then .i2cLengthError else .i2cWriteError), false,
        formatWrite address h bus⟩, none⟩ := by
  have hadmitted (code : Nibble) : admitted (stset code) s.formatted = stset code s.formatted :=
    admitted_free _ s.formatted hb
  have hformat := admitted_format s ht hb
  have hword := commandWord_format s ht
  by_cases ha : bus.accepted < 5
  · have hsent := sendCommand_shortWrite _ _ address h bus s _ hformat rfl ha
    rw [getData_failed address h bus frame s _ hword _ hsent rfl, hadmitted, if_pos ha]
    rfl
  · have hsent := sendCommand_failedWrite _ _ address h bus s _ hformat rfl (Nat.not_lt.1 ha) (hfail.resolve_left ha)
    rw [getData_failed address h bus frame s _ hword _ hsent rfl, hadmitted, if_neg ha]
    rfl

end

/-! ### The frame (R188, R189) -/

/-- Nine bytes are read one by one, loaded and decoded, and the registers give the values. -/
theorem readFrame_full (address : Byte) (r : ReadChoice) (h0 h1 dl dh fl fh tl th c : Byte) (rest : List Byte)
    (sent : Exchange) (u : State)
    (hu : exec (.dataFrame h0 h1 dl dh fl fh tl th c) sent.state = .next u) :
    readFrame address r (h0 :: h1 :: dl :: dh :: fl :: fh :: tl :: th :: c :: rest) sent =
      ⟨⟨u, u.ok, sent.calls ++ .bus (.requestRead address 9 r.sendStop) ::
        [h0, h1, dl, dh, fl, fh, tl, th, c].flatMap
          (fun b => [Call.bus (.byteAvailablePeek true), .bus (.readByte b)])⟩, measured u⟩ := by
  have hlen : 9 ≤ (h0 :: h1 :: dl :: dh :: fl :: fh :: tl :: th :: c :: rest).length := by simp
  have hdecoded : admitted decd (sent.state.loadRx [h0, h1, dl, dh, fl, fh, tl, th, c]) = u := Host.Outcome.next.inj hu
  rw [readFrame, finishRead_full r 9 _ decd sent.state hlen, requestCalls, readCalls_full 9 _ hlen,
    if_neg (Nat.not_lt.2 hlen)]
  exact congrArg (fun v : State => (⟨⟨v, v.ok, _⟩, measured v⟩ : Reading)) hdecoded

/-- The state after a frame that came short, by the host's way (R189). -/
def State.shortRead (s : State) (r : ReadChoice) (frame : List Byte) : State :=
  match r.short with
  | .record => s.record .i2cReadError
  | .decode => (s.loadRx frame).enter.undefFields.fail .i2cReadError

theorem finishRead_short (r : ReadChoice) (frame : List Byte) (s : State) (hb : s.busy = false)
    (hlen : frame.length < 9) : finishRead r 9 frame decd s = s.shortRead r frame := by
  cases hr : r.short with
  | record =>
    rw [finishRead_record r 9 frame decd s hr hlen, admitted_free _ s hb, State.shortRead, hr]
    rfl
  | decode =>
    have hnine : (s.loadRx frame).rxlen ≠ 9 := by
      intro h9
      have hnat := loadRx_rxlen_toNat s frame (by omega)
      rw [h9] at hnat
      exact absurd hnat (by simp; omega)
    rw [finishRead_decode r 9 frame decd s hr, List.take_of_length_le (by omega),
      admitted_free _ _ ((State.loadRx_busy s frame).trans hb), decd_length _ hnine, State.shortRead, hr]

theorem readFrame_short (address : Byte) (r : ReadChoice) (frame : List Byte) (sent : Exchange)
    (hb : sent.state.busy = false) (hlen : frame.length < 9) :
    readFrame address r frame sent =
      ⟨⟨sent.state.shortRead r frame, (sent.state.shortRead r frame).ok,
        sent.calls ++ .bus (.requestRead address 9 r.sendStop) ::
          (frame.flatMap (fun b => [Call.bus (.byteAvailablePeek true), .bus (.readByte b)]) ++
            [.bus (.byteAvailablePeek false)])⟩, none⟩ := by
  rw [readFrame, finishRead_short r frame sent.state hb hlen, requestCalls, readCalls_short 9 frame hlen, if_pos hlen]

/-- A short read leaves I2C-read-error and not success, whichever way (R189). -/
theorem shortRead_fails (s : State) (r : ReadChoice) (frame : List Byte) :
    (s.shortRead r frame).ok = false ∧ (s.shortRead r frame).status = .i2cReadError := by
  unfold State.shortRead
  split <;> exact ⟨rfl, rfl⟩

/-- Settles O60: a clean write is followed by the frame, which the data frame row decodes or which came short. -/
theorem getDataFollowsTheFrame : Obligations.GetDataFollowsTheFrame := by
  intro address h bus s ht hb write
  refine ⟨fun ha he => ⟨?full, fun frame hlen => ?short⟩, fun hfail frame => ?failed⟩
  case full =>
    intro h0 h1 dl dh fl fh tl th c rest
    obtain ⟨hpasses, hfails⟩ := dataFrameIsLoadedAndDecoded h0 h1 dl dh fl fh tl th c s.formatted hb
    dsimp only
    rw [getData_cleanWrite s ht hb address h bus _ ha he]
    by_cases hc : c = csum8 [h0, h1, dl, dh, fl, fh, tl, th]
    · rw [readFrame_full address h.frame h0 h1 dl dh fl fh tl th c rest ⟨s.formatted, true, _⟩ _ (hpasses hc)]
      exact ⟨rfl, hc, rfl, fun _ => ⟨rfl, rfl, rfl, rfl, rfl, rfl, decide_eq_true_iff⟩, fun hne => absurd hc hne⟩
    · rw [readFrame_full address h.frame h0 h1 dl dh fl fh tl th c rest ⟨s.formatted, true, _⟩ _ (hfails hc)]
      exact ⟨rfl, rfl, rfl, fun heq => absurd heq hc, fun _ => ⟨rfl, rfl, rfl, rfl, rfl, rfl, rfl⟩⟩
  case short =>
    obtain ⟨hok, hstatus⟩ := shortRead_fails s.formatted h.frame frame
    dsimp only
    rw [getData_cleanWrite s ht hb address h bus frame ha he, readFrame_short address h.frame frame _ hb hlen]
    refine ⟨rfl, hok, hstatus, rfl, fun hway => ?decode, fun hway => ?record⟩
    case decode => rw [State.shortRead, hway]; exact ⟨rfl, rfl, rfl, rfl⟩
    case record => rw [State.shortRead, hway]; exact ⟨rfl, rfl, rfl, rfl⟩
  case failed =>
    dsimp only
    rw [getData_writeError s ht hb address h bus frame hfail]
    exact ⟨rfl, rfl, rfl, rfl, rfl, rfl, rfl, rfl⟩

end Sys2Proof.Machine
end
